-- ==== Sys2Proof/Word.lean ====
section
/-! DEFINITION. The word types of the core: 00_scope.md rules R12 and R13. -/

namespace Sys2Proof

/-- A byte of a data block; byte 0 of a block is first on the wire (R13). -/
abbrev Byte := BitVec 8

/-- One word of a buffer, a block address or a block count (R12, R46). -/
abbrev Word32 := BitVec 32

/-- A command frame or a short response: bit 47 is first on the wire (R13, R90). -/
abbrev Frame := BitVec 48

/-- A relative card address (R22). -/
abbrev Rca := BitVec 16

end Sys2Proof
end

