-- ==== Sys2Proof/Machine/Types.lean ====
section
/-! DEFINITION. The enumerations of the state, the output trace and the events:
10_state.md rules R20, R26 to R49, 00_scope.md rule R9, 60_exceptions.md rule R301. -/

namespace Sys2Proof.Machine

/-- The nine card states (R20); the constructors stand in the order of their codes. -/
inductive CardState where
  | idle | ready | identification | standby | transfer | sendData | receiveData | programming
  /-- Declared, and entered by no rule (R20; 92_eei_decisions.md D17). -/
  | disconnect
  deriving DecidableEq, Repr

/-- The 4-bit code of a card state (R20). -/
def CardState.code : CardState → BitVec 4
  | .idle => 0#4
  | .ready => 1#4
  | .identification => 2#4
  | .standby => 3#4
  | .transfer => 4#4
  | .sendData => 5#4
  | .receiveData => 6#4
  | .programming => 7#4
  | .disconnect => 8#4

/-- The phase of the read sequencer (R26). -/
inductive RdPhase where
  /-- No read data phase. -/
  | rIdle
  /-- A block request is published; the core waits for `block_read_go`. -/
  | waitGo
  /-- The consumer has released the block; the host may clock it out. -/
  | sending
  /-- A register block is ready for the host to clock out. -/
  | sendingReg
  /-- The read ran past the last block of the card. -/
  | rHalted
  deriving DecidableEq, Repr

/-- The phase of the write sequencer (R27). -/
inductive WrPhase where
  /-- No write data phase. -/
  | wIdle
  /-- The core waits for the host's next data block. -/
  | waitData
  /-- A good block sits in the write buffer; the core waits for `block_write_done`. -/
  | waitDone
  /-- The write ran past the last block of the card. -/
  | wHalted
  deriving DecidableEq, Repr

/-- The DAT bus width (R28). -/
inductive BusWidth where
  | one | four
  deriving DecidableEq, Repr

/-- The number of DAT lines in use (R28, R118). -/
def BusWidth.lanes : BusWidth → Nat
  | .one => 1
  | .four => 4

/-- The two buffers (R46). -/
inductive Buf where
  /-- The read buffer: written by the consumer, sent to the host. -/
  | rb
  /-- The write buffer: written by host data blocks, read by the consumer. -/
  | wb
  deriving DecidableEq, Repr

/-- A response frame on CMD (R100).  The type None of R100 is a response that is not sent, so the
trace holds nothing for it. -/
inductive Response where
  /-- R1, R1b, R3, R6 or R7; `busy` is set only for R1b. -/
  | short48 (bits : Frame) (busy : Bool)
  /-- R2. -/
  | long136 (bits : BitVec 136)
  deriving DecidableEq, Repr

/-- One thing the core sends (R49). -/
inductive Output where
  | response (r : Response)
  /-- A data block with the CRC16 of each DAT line in use, DAT0 first (R119). -/
  | data (bytes : List Byte) (crcs : List (BitVec 16))
  /-- A CRC status token (R120). -/
  | token (t : BitVec 3)
  /-- The `data_out_done` pulse (R43). -/
  | dataOutDone
  deriving DecidableEq, Repr

/-- The status outputs of the manager interface a consumer can read (R30 to R42). -/
inductive StatusOutput where
  | cardState
  | blockReadAct | blockReadAddr | blockReadNum | blockReadStop
  | blockWriteAct | blockWriteAddr | blockWriteNum
  | preeraseNum | eraseStart | eraseEnd
  | infoCardDesel | errCmdCrc | errUnhandledCmd | errOpOutRange | errHostIsSpi
  /-- The notification derived from `block_read_act` (R42, R308). -/
  | readPending
  /-- The notification derived from `block_write_act` (R42, R308). -/
  | writePending
  deriving DecidableEq, Repr

/-- One action of an agent (R9; 92_eei_decisions.md D1). -/
inductive Event where
  /-- Host: a 48-bit frame on CMD and the DAT3 level sampled with it (R140). -/
  | hostCommand (frame : Frame) (dat3 : Bool)
  /-- Host: a data block and its CRC16 values (R119, R276). -/
  | hostDataIn (bytes : List Byte) (crcs : List (BitVec 16))
  /-- Host: clocks a data block out of the card (R268). -/
  | hostDataOut
  /-- Consumer: the `block_read_go` pulse (R264). -/
  | consumerGo
  /-- Consumer: the `block_write_done` pulse (R280). -/
  | consumerDone
  /-- Consumer: reads one buffer word (R79). -/
  | consumerBufRead (a : BitVec 8)
  /-- Consumer: writes one buffer word (R80). -/
  | consumerBufWrite (a : BitVec 8) (v : Word32)
  /-- Consumer: reads a status output (R9, R84). -/
  | consumerStatusRead (o : StatusOutput)
  /-- Platform: the core reset (R340). -/
  | reset
  deriving DecidableEq, Repr

/-- The error taxonomy (R301). -/
inductive ErrorClass where
  | protocolFraming | unsupportedCommand | outOfRangeAddress | modeViolation | deselection
  deriving DecidableEq, Repr

/-- The code of an error class: this numbering is the spec's, not a register (R301). -/
def ErrorClass.code : ErrorClass → Nat
  | .protocolFraming => 0
  | .unsupportedCommand => 1
  | .outOfRangeAddress => 2
  | .modeViolation => 3
  | .deselection => 4

end Sys2Proof.Machine
end

