-- ==== Sys2Proof/Machine/Crc.lean ====
section
/-! DEFINITION. The CRC functions and the DAT-line split of a block:
30_encoding.md rules R92 and R116 to R118. -/

namespace Sys2Proof.Machine

/-- The bits of a value in wire order, the most significant first (R13). -/
def bitsMsb {n : Nat} (x : BitVec n) : List Bool :=
  (List.range n).map x.getMsbD

/-- One shift of the CRC7 register (R92). -/
def crc7Step (c : BitVec 7) (b : Bool) : BitVec 7 :=
  if (c.getLsbD 6 ^^ b) then (c <<< 1) ^^^ 0b0001001#7 else c <<< 1

/-- CRC7, generator x^7 + x^3 + 1, initial value 0 (R92). -/
def crc7 (bits : List Bool) : BitVec 7 := bits.foldl crc7Step 0#7

/-- A frame whose CRC7 covers its first 40 bits and whose end bit is 1 (R90, R107). -/
def sealFrame (head : BitVec 40) : Frame := head ++ crc7 (bitsMsb head) ++ 1#1

/-- One shift of the CRC16 register (R117). -/
def crc16Step (c : BitVec 16) (b : Bool) : BitVec 16 :=
  if (c.getLsbD 15 ^^ b) then (c <<< 1) ^^^ 0x1021#16 else c <<< 1

/-- CRC16, generator x^16 + x^12 + x^5 + 1, initial value 0 (R117). -/
def crc16 (bits : List Bool) : BitVec 16 := bits.foldl crc16Step 0#16

/-- The bits line DATk carries of one byte (R116, R118). -/
def laneBitsOfByte (w : BusWidth) (k : Nat) (b : Byte) : List Bool :=
  match w with
  | .one => bitsMsb b
  | .four => [b.getLsbD (4 + k), b.getLsbD k]

/-- The bits line DATk carries of a block (R118). -/
def laneBits (bytes : List Byte) (w : BusWidth) (k : Nat) : List Bool :=
  bytes.flatMap (laneBitsOfByte w k)

/-- The CRC16 of each line in use, DAT0 first (R118). -/
def dataCrc (bytes : List Byte) (w : BusWidth) : List (BitVec 16) :=
  (List.range w.lanes).map fun k => crc16 (laneBits bytes w k)

/-- A host data block is good: 512 bytes, and the CRC list of the width in force (R119). -/
def goodBlock (bytes : List Byte) (crcs : List (BitVec 16)) (w : BusWidth) : Bool :=
  bytes.length == 512 && crcs == dataCrc bytes w

end Sys2Proof.Machine
end

