-- ==== Sys2Proof/Syntax.lean ====
section
/-! DEFINITION. The commands: one constructor for each row of spec/opcode_table.json
(30_encoding.md rules R128 and R131).

An operand is the unsigned slice of the argument that R128 names; `stuff` operands are the stuff
bits, whose values the core ignores, kept so that no bit of a frame is dropped. -/

namespace Sys2Proof

/-- A command of the subset of R128. -/
inductive Instr where
  /-- CMD0 (R170). -/
  | goIdleState (stuff : BitVec 32)
  /-- CMD2 (R186). -/
  | allSendCid (stuff : BitVec 32)
  /-- CMD3 (R190, R191). -/
  | sendRelativeAddr (stuff : BitVec 32)
  /-- CMD6 (R210): mode `arg[31]`, groups 2 to 6 `arg[30:4]`, function group 1 `arg[3:0]`. -/
  | switchFunc (mode : BitVec 1) (groups : BitVec 27) (fg1 : BitVec 4)
  /-- CMD7 (R198, R200): RCA `arg[31:16]`. -/
  | selectDeselectCard (rca : Rca) (stuff : BitVec 16)
  /-- CMD8 (R178): VHS `arg[11:8]`, check pattern `arg[7:0]`. -/
  | sendIfCond (stuff : BitVec 20) (vhs : BitVec 4) (pattern : BitVec 8)
  /-- CMD9 (R193). -/
  | sendCsd (rca : Rca) (stuff : BitVec 16)
  /-- CMD10 (R194). -/
  | sendCid (rca : Rca) (stuff : BitVec 16)
  /-- CMD12 (R260). -/
  | stopTransmission (stuff : BitVec 32)
  /-- CMD13 (R196). -/
  | sendStatus (rca : Rca) (stuff : BitVec 16)
  /-- CMD16 (R212). -/
  | setBlocklen (len : BitVec 32)
  /-- CMD17 (R252). -/
  | readSingleBlock (addr : BitVec 32)
  /-- CMD18 (R252). -/
  | readMultipleBlock (addr : BitVec 32)
  /-- CMD23 (R214). -/
  | setBlockCount (count : BitVec 32)
  /-- CMD24 (R254). -/
  | writeBlock (addr : BitVec 32)
  /-- CMD25 (R254). -/
  | writeMultipleBlock (addr : BitVec 32)
  /-- CMD32 (R228). -/
  | eraseWrBlkStart (addr : BitVec 32)
  /-- CMD33 (R230). -/
  | eraseWrBlkEnd (addr : BitVec 32)
  /-- CMD38 (R232). -/
  | erase (stuff : BitVec 32)
  /-- CMD55 (R180). -/
  | appCmd (rca : Rca) (stuff : BitVec 16)
  /-- ACMD6 (R218): width code `arg[1:0]`. -/
  | setBusWidth (stuff : BitVec 30) (width : BitVec 2)
  /-- ACMD23 (R222): count `arg[22:0]`. -/
  | setWrBlkEraseCount (stuff : BitVec 9) (count : BitVec 23)
  /-- ACMD41 (R183): HCS `arg[30]`, voltage window `arg[23:0]`. -/
  | sdSendOpCond (stuffHigh : BitVec 1) (hcs : BitVec 1) (stuff : BitVec 6) (window : BitVec 24)
  /-- ACMD51 (R224). -/
  | sendScr (stuff : BitVec 32)
  deriving DecidableEq, Repr

end Sys2Proof
end

