-- ==== Sys2Proof/WellFormed.lean ====
section
/-! DEFINITION. Which terms of the syntax the spec writes.

Every operand of `Instr` has its width by its type, and no argument value makes a known command
unknown (30_encoding.md rule R130), so every term of `Instr` is well formed.  The checks left are
those of a host data block, whose lists have lengths the types do not bound (R115, R119).  The
machine does not rely on them: a malformed block is a bad block (R119, R18). -/

namespace Sys2Proof

/-- Every command with its operands is an encodable instruction (R130): one line per constructor. -/
def Instr.wellFormed : Instr → Bool
  | .goIdleState _ => true
  | .allSendCid _ => true
  | .sendRelativeAddr _ => true
  | .switchFunc _ _ _ => true
  | .selectDeselectCard _ _ => true
  | .sendIfCond _ _ _ => true
  | .sendCsd _ _ => true
  | .sendCid _ _ => true
  | .stopTransmission _ => true
  | .sendStatus _ _ => true
  | .setBlocklen _ => true
  | .readSingleBlock _ => true
  | .readMultipleBlock _ => true
  | .setBlockCount _ => true
  | .writeBlock _ => true
  | .writeMultipleBlock _ => true
  | .eraseWrBlkStart _ => true
  | .eraseWrBlkEnd _ => true
  | .erase _ => true
  | .appCmd _ _ => true
  | .setBusWidth _ _ => true
  | .setWrBlkEraseCount _ _ => true
  | .sdSendOpCond _ _ _ _ => true
  | .sendScr _ => true

/-- A host data block carries 512 bytes and one CRC16 per DAT line, so 1 or 4 of them (R115, R119);
every other event is well formed by its type. -/
def Machine.Event.wellFormed : Machine.Event → Bool
  | .hostDataIn bytes crcs => bytes.length == 512 && (crcs.length == 1 || crcs.length == 4)
  | _ => true

end Sys2Proof
end

