-- ==== Sys2Proof/Decode.lean ====
section
/-! DEFINITION. From a 48-bit frame to a command, and back: 30_encoding.md rules R90 to R93,
R128 to R131, R133, and the surfacing test of 40_decoder.md rule R140. -/

namespace Sys2Proof

/-! ## Fields of a frame (R91) -/

/-- Bit 47. -/
def frameStart (f : Frame) : BitVec 1 := f.extractLsb' 47 1

/-- Bit 46. -/
def frameTrans (f : Frame) : BitVec 1 := f.extractLsb' 46 1

/-- Bits 45:40. -/
def frameIndex (f : Frame) : BitVec 6 := f.extractLsb' 40 6

/-- Bits 39:8. -/
def frameArgument (f : Frame) : BitVec 32 := f.extractLsb' 8 32

/-- Bits 7:1. -/
def frameCrc (f : Frame) : BitVec 7 := f.extractLsb' 1 7

/-- Bit 0. -/
def frameEnd (f : Frame) : BitVec 1 := f.extractLsb' 0 1

/-- The first 40 bits, over which the CRC is computed (R90). -/
def frameHead (f : Frame) : BitVec 40 := f.extractLsb' 8 40

/-- A frame as six bytes, byte 0 first on the wire (R90). -/
def frameBytes (f : Frame) : List Byte :=
  (List.range 6).map fun k => f.extractLsb' (40 - 8 * k) 8

/-- R93. -/
def crcValid (f : Frame) : Bool :=
  frameCrc f == Machine.crc7 (Machine.bitsMsb (frameHead f)) && frameEnd f == 1#1

/-- A host command frame: start bit 0 and transmission bit 1 (R93, R140). -/
def surfaced (f : Frame) : Bool := frameStart f == 0#1 && frameTrans f == 1#1

/-! ## Resolution (R128 to R131) -/

/-- The standard command of an index (the rows of R128 with app = 0). -/
def standardCommand (index : BitVec 6) (arg : BitVec 32) : Option Instr :=
  match index.toNat with
  | 0 => some (.goIdleState arg)
  | 2 => some (.allSendCid arg)
  | 3 => some (.sendRelativeAddr arg)
  | 6 => some (.switchFunc (arg.extractLsb' 31 1) (arg.extractLsb' 4 27) (arg.extractLsb' 0 4))
  | 7 => some (.selectDeselectCard (arg.extractLsb' 16 16) (arg.extractLsb' 0 16))
  | 8 => some (.sendIfCond (arg.extractLsb' 12 20) (arg.extractLsb' 8 4) (arg.extractLsb' 0 8))
  | 9 => some (.sendCsd (arg.extractLsb' 16 16) (arg.extractLsb' 0 16))
  | 10 => some (.sendCid (arg.extractLsb' 16 16) (arg.extractLsb' 0 16))
  | 12 => some (.stopTransmission arg)
  | 13 => some (.sendStatus (arg.extractLsb' 16 16) (arg.extractLsb' 0 16))
  | 16 => some (.setBlocklen arg)
  | 17 => some (.readSingleBlock arg)
  | 18 => some (.readMultipleBlock arg)
  | 23 => some (.setBlockCount arg)
  | 24 => some (.writeBlock arg)
  | 25 => some (.writeMultipleBlock arg)
  | 32 => some (.eraseWrBlkStart arg)
  | 33 => some (.eraseWrBlkEnd arg)
  | 38 => some (.erase arg)
  | 55 => some (.appCmd (arg.extractLsb' 16 16) (arg.extractLsb' 0 16))
  | _ => none

/-- The application command of an index (the rows of R128 with app = 1). -/
def applicationCommand (index : BitVec 6) (arg : BitVec 32) : Option Instr :=
  match index.toNat with
  | 6 => some (.setBusWidth (arg.extractLsb' 2 30) (arg.extractLsb' 0 2))
  | 23 => some (.setWrBlkEraseCount (arg.extractLsb' 23 9) (arg.extractLsb' 0 23))
  | 41 => some (.sdSendOpCond (arg.extractLsb' 31 1) (arg.extractLsb' 30 1) (arg.extractLsb' 24 6)
      (arg.extractLsb' 0 24))
  | 51 => some (.sendScr arg)
  | _ => none

/-- The application indices that are defined or reserved and not supported (R129). -/
def unsupportedApplicationIndex : List Nat :=
  [13, 22, 42, 18, 25, 26, 38, 43, 44, 45, 46, 47, 48, 49]

/-- R129; none is UNKNOWN (R130). -/
def resolve (index : BitVec 6) (app : Bool) (arg : BitVec 32) : Option Instr :=
  match app with
  | false => standardCommand index arg
  | true =>
    match applicationCommand index arg with
    | some i => some i
    | none =>
      if index.toNat ∈ unsupportedApplicationIndex then none else standardCommand index arg

/-! ## The decoder -/

/-- What the decoder makes of a frame: each rejection under its own name (R140, R142). -/
inductive Decoded where
  /-- Start bit 1 or transmission bit 0: not a host command frame (R140). -/
  | notSurfaced
  /-- A wrong CRC7 or end bit (R93, R145). -/
  | crcFailure
  /-- A pair (index, `app_cmd`) outside the subset (R130, R147). -/
  | unknown
  /-- A known command and its operands. -/
  | command (i : Instr)
  deriving DecidableEq, Repr

/-- The decoder, given the `app_cmd` flag, in the order of checks of R140 and R142. -/
def decode (app : Bool) (f : Frame) : Decoded :=
  if surfaced f then
    if crcValid f then
      match resolve (frameIndex f) app (frameArgument f) with
      | some i => .command i
      | none => .unknown
    else .crcFailure
  else .notSurfaced

/-! ## The encoder -/

/-- The index of a command (R128). -/
def Instr.index : Instr → BitVec 6
  | .goIdleState _ => 0#6
  | .allSendCid _ => 2#6
  | .sendRelativeAddr _ => 3#6
  | .switchFunc _ _ _ => 6#6
  | .selectDeselectCard _ _ => 7#6
  | .sendIfCond _ _ _ => 8#6
  | .sendCsd _ _ => 9#6
  | .sendCid _ _ => 10#6
  | .stopTransmission _ => 12#6
  | .sendStatus _ _ => 13#6
  | .setBlocklen _ => 16#6
  | .readSingleBlock _ => 17#6
  | .readMultipleBlock _ => 18#6
  | .setBlockCount _ => 23#6
  | .writeBlock _ => 24#6
  | .writeMultipleBlock _ => 25#6
  | .eraseWrBlkStart _ => 32#6
  | .eraseWrBlkEnd _ => 33#6
  | .erase _ => 38#6
  | .appCmd _ _ => 55#6
  | .setBusWidth _ _ => 6#6
  | .setWrBlkEraseCount _ _ => 23#6
  | .sdSendOpCond _ _ _ _ => 41#6
  | .sendScr _ => 51#6

/-- The argument of a command, its operands put back in their places (R128, R131). -/
def Instr.argument : Instr → BitVec 32
  | .goIdleState arg => arg
  | .allSendCid arg => arg
  | .sendRelativeAddr arg => arg
  | .switchFunc mode groups fg1 => mode ++ groups ++ fg1
  | .selectDeselectCard rca stuff => rca ++ stuff
  | .sendIfCond stuff vhs pattern => stuff ++ vhs ++ pattern
  | .sendCsd rca stuff => rca ++ stuff
  | .sendCid rca stuff => rca ++ stuff
  | .stopTransmission arg => arg
  | .sendStatus rca stuff => rca ++ stuff
  | .setBlocklen len => len
  | .readSingleBlock addr => addr
  | .readMultipleBlock addr => addr
  | .setBlockCount count => count
  | .writeBlock addr => addr
  | .writeMultipleBlock addr => addr
  | .eraseWrBlkStart addr => addr
  | .eraseWrBlkEnd addr => addr
  | .erase arg => arg
  | .appCmd rca stuff => rca ++ stuff
  | .setBusWidth stuff width => stuff ++ width
  | .setWrBlkEraseCount stuff count => stuff ++ count
  | .sdSendOpCond stuffHigh hcs stuff window => stuffHigh ++ hcs ++ stuff ++ window
  | .sendScr arg => arg

/-- Whether a command is an application command (the app column of R128). -/
def Instr.isApp : Instr → Bool
  | .goIdleState _ => false
  | .allSendCid _ => false
  | .sendRelativeAddr _ => false
  | .switchFunc _ _ _ => false
  | .selectDeselectCard _ _ => false
  | .sendIfCond _ _ _ => false
  | .sendCsd _ _ => false
  | .sendCid _ _ => false
  | .stopTransmission _ => false
  | .sendStatus _ _ => false
  | .setBlocklen _ => false
  | .readSingleBlock _ => false
  | .readMultipleBlock _ => false
  | .setBlockCount _ => false
  | .writeBlock _ => false
  | .writeMultipleBlock _ => false
  | .eraseWrBlkStart _ => false
  | .eraseWrBlkEnd _ => false
  | .erase _ => false
  | .appCmd _ _ => false
  | .setBusWidth _ _ => true
  | .setWrBlkEraseCount _ _ => true
  | .sdSendOpCond _ _ _ _ => true
  | .sendScr _ => true

/-- The frame of an index and an argument (R91). -/
def encodeFrame (index : BitVec 6) (arg : BitVec 32) : Frame :=
  Machine.sealFrame (0b01#2 ++ index ++ arg)

/-- The frame of a command (R91, R132); an application command is preceded by a CMD55. -/
def encode (i : Instr) : Frame := encodeFrame i.index i.argument

/-! ## The words of spec/opcode_table.json -/

/-- The frame a table word stands for: its bits 47:8 with the CRC7 and the end bit they call for.
A row's mask fixes bits 47:40 alone (R133), so the CRC and end bits of a word are no part of the
row, and a frame whose CRC7 or end bit is wrong is no command at all (R93).  DESIGN CHOICE
(log 2). -/
def tableFrame (nbits w : Nat) : Frame :=
  Machine.sealFrame (frameHead (BitVec.ofNat 48 (w % 2 ^ nbits)))

/-- The `app_cmd` flag under which a frame is read where nothing fixes it: 0, the flag's reset
value, where the frame is then a command, and else 1 (R129).  DESIGN CHOICE (log 2). -/
def tableApp (f : Frame) : Bool :=
  match decode false f with
  | .command _ => false
  | _ => true

/-- The instruction the decoder reads from a word of the opcode table. -/
def decodeTableWord (nbits w : Nat) : Option Instr :=
  match decode (tableApp (tableFrame nbits w)) (tableFrame nbits w) with
  | .command i => some i
  | _ => none

end Sys2Proof
end

