-- ==== Sys2Proof/Machine/State.lean ====
section
/-! DEFINITION. The state of the core, its reset, and the reasons a step could stop:
10_state.md rules R20 to R53, 60_exceptions.md rule R316. -/

namespace Sys2Proof.Machine

/-- The model-fault reasons of R316, a closed set.  They record a broken obligation of the consumer
and are held in `State.faults`.  No step ends in one: the write that raises a fault is performed
all the same (R80), and nothing stops the core (R300).  Safe: a claim about a run assumes that no
fault is recorded (R316). -/
inductive Fault where
  /-- `RB_RACE`: recorded by a consumer write to the read buffer while the released block has not
  been sent (R80). -/
  | rbRace
  /-- `WB_RACE`: recorded by a consumer write to the write buffer while the host may be streaming
  into it (R80). -/
  | wbRace
  deriving DecidableEq, Repr

/-- The reasons for a refusal. -/
inductive Refusal where
  /-- An instruction that has no meaning yet; no arm of this model answers it.  Safe. -/
  | notModelled (mnemonic : String)
  deriving DecidableEq, Repr

/-- A set of model-fault reasons, one flag each, so that equal sets are equal data (R48). -/
structure FaultSet where
  rbRace : Bool
  wbRace : Bool
  deriving DecidableEq, Repr

/-- The two buffers as byte cells: byte n of the read buffer at n, byte n of the write buffer at
512 + n, the addresses strictly rising; a byte nothing has written is not listed (log 4). -/
abbrev Memory := List Host.Cell

/-- The state of the core (R53: no other state exists), and the model's own fields. -/
structure State where
  /-- R20. -/
  cardState : CardState
  /-- R22. -/
  rca : Rca
  /-- R23. -/
  appCmd : Bool
  /-- R24: 0 means that no count is pending. -/
  blkCountPending : Word32
  /-- R25. -/
  xferBounded : Bool
  /-- R26. -/
  rdPhase : RdPhase
  /-- R26: the register block waiting to be sent. -/
  rdRegPayload : List Byte
  /-- R27. -/
  wrPhase : WrPhase
  /-- R27: the next landing block is the first of its transfer. -/
  wrFirst : Bool
  /-- R27: CMD12 arrived while a block awaited `done`. -/
  wrStopping : Bool
  /-- R28. -/
  busWidth : BusWidth
  /-- R28. -/
  hsActive : Bool
  /-- R29: card status bit 31 pending. -/
  stOutOfRange : Bool
  /-- R29: card status bit 23 pending. -/
  stComCrcError : Bool
  /-- R29: card status bit 22 pending. -/
  stIllegalCommand : Bool
  /-- R30. -/
  blockReadAct : Bool
  /-- R31. -/
  blockReadAddr : Word32
  /-- R32. -/
  blockReadNum : Word32
  /-- R33. -/
  blockReadStop : Bool
  /-- R34. -/
  blockWriteAct : Bool
  /-- R35. -/
  blockWriteAddr : Word32
  /-- R36. -/
  blockWriteNum : Word32
  /-- R37. -/
  preeraseNum : BitVec 23
  /-- R38. -/
  eraseStart : Word32
  /-- R39. -/
  eraseEnd : Word32
  /-- R40. -/
  infoCardDesel : Bool
  /-- R41: ProtocolFraming. -/
  errCmdCrc : Bool
  /-- R41: UnsupportedCommand. -/
  errUnhandledCmd : Bool
  /-- R41: OutOfRangeAddress. -/
  errOpOutRange : Bool
  /-- R41: ModeViolation. -/
  errHostIsSpi : Bool
  /-- R46: both buffers. -/
  mem : Memory
  /-- R48. -/
  faults : FaultSet
  /-- R49, oldest first. -/
  out : List Output
  /-- The model's own: the events still to come, the next one first (R82).  DESIGN CHOICE
  (log 1). -/
  inputs : List Event
  /-- The model's own: the DAT3 level sampled with the command in hand (R140), true for high.
  DESIGN CHOICE (log 3). -/
  dat3 : Bool
  /-- The model's own: how many free values have been drawn (R14).  DESIGN CHOICE (log 5). -/
  draws : Nat
  /-- The model's own: the word the consumer's last read returned (R79, R84).  DESIGN CHOICE
  (log 6). -/
  portData : Word32
  deriving DecidableEq, Repr

/-- Power-up (R341): every field at its value in R51, both buffers unwritten, no fault recorded and
nothing sent.  The last four fields are the model's own (log 1, 3, 5, 6). -/
def State.reset : State where
  cardState := .idle
  rca := 0
  appCmd := false
  blkCountPending := 0
  xferBounded := false
  rdPhase := .rIdle
  rdRegPayload := []
  wrPhase := .wIdle
  wrFirst := false
  wrStopping := false
  busWidth := .one
  hsActive := false
  stOutOfRange := false
  stComCrcError := false
  stIllegalCommand := false
  blockReadAct := false
  blockReadAddr := 0
  blockReadNum := 0
  blockReadStop := false
  blockWriteAct := false
  blockWriteAddr := 0
  blockWriteNum := 0
  preeraseNum := 0
  eraseStart := 0
  eraseEnd := 0
  infoCardDesel := false
  errCmdCrc := false
  errUnhandledCmd := false
  errOpOutRange := false
  errHostIsSpi := false
  mem := []
  faults := { rbRace := false, wbRace := false }
  out := []
  inputs := []
  dat3 := true
  draws := 0
  portData := 0

end Sys2Proof.Machine
end

