-- ==== Sys2Proof/Machine/Flags.lean ====
section
/-! DEFINITION. The card status of a response and its R6 packing (30_encoding.md rules R110, R111,
R113), and the outputs that are functions of the state (10_state.md rules R42, R44). -/

namespace Sys2Proof.Machine

/-- One status bit at its place. -/
def statusBit (b : Bool) (k : Nat) : BitVec 32 := (BitVec.ofBool b).setWidth 32 <<< k

/-- `CardStatus(p, oor, app)` (R111): `p` is the state before the command's own effects. -/
def cardStatus (p : State) (oor app : Bool) : BitVec 32 :=
  statusBit (p.stOutOfRange || oor) 31
    ||| statusBit p.stComCrcError 23
    ||| statusBit p.stIllegalCommand 22
    ||| (p.cardState.code.setWidth 32 <<< 9)
    ||| statusBit (!p.blockWriteAct) 8
    ||| statusBit app 5

/-- `R6Status(st)` (R113). -/
def r6Status (st : BitVec 32) : BitVec 16 :=
  st.extractLsb' 23 1 ++ st.extractLsb' 22 1 ++ st.extractLsb' 19 1 ++ st.extractLsb' 0 13

/-- The notification `read_pending` (R42, R308). -/
def readPending (s : State) : Bool := s.blockReadAct

/-- The notification `write_pending` (R42, R308). -/
def writePending (s : State) : Bool := s.blockWriteAct

/-- DAT0 held low (R44). -/
def dat0Busy (s : State) : Bool := s.blockWriteAct

/-- A status output as a word, zero-extended (R42, R72, R84).  DESIGN CHOICE (log 6): the width. -/
def statusValue (s : State) : StatusOutput → Word32
  | .cardState => s.cardState.code.setWidth 32
  | .blockReadAct => (BitVec.ofBool s.blockReadAct).setWidth 32
  | .blockReadAddr => s.blockReadAddr
  | .blockReadNum => s.blockReadNum
  | .blockReadStop => (BitVec.ofBool s.blockReadStop).setWidth 32
  | .blockWriteAct => (BitVec.ofBool s.blockWriteAct).setWidth 32
  | .blockWriteAddr => s.blockWriteAddr
  | .blockWriteNum => s.blockWriteNum
  | .preeraseNum => s.preeraseNum.setWidth 32
  | .eraseStart => s.eraseStart
  | .eraseEnd => s.eraseEnd
  | .infoCardDesel => (BitVec.ofBool s.infoCardDesel).setWidth 32
  | .errCmdCrc => (BitVec.ofBool s.errCmdCrc).setWidth 32
  | .errUnhandledCmd => (BitVec.ofBool s.errUnhandledCmd).setWidth 32
  | .errOpOutRange => (BitVec.ofBool s.errOpOutRange).setWidth 32
  | .errHostIsSpi => (BitVec.ofBool s.errHostIsSpi).setWidth 32
  | .readPending => (BitVec.ofBool (readPending s)).setWidth 32
  | .writePending => (BitVec.ofBool (writePending s)).setWidth 32

end Sys2Proof.Machine
end

