-- ==== Sys2Proof/Config.lean ====
section
/-! DEFINITION. The parameters of 00_scope.md rule R11 and the free values (`draw`, R14).

A parameter the spec leaves OPEN is an opaque constant: no proof can see its value, so a
statement holds for every value the spec admits.  Where the spec bounds a parameter, the
constant is built from an opaque one so that its values are exactly the admitted ones (log 7). -/

namespace Sys2Proof.Config

/-- `ENABLE_HS`: the static high-speed capability (R11). -/
opaque enableHs : Bool

/-- The unconstrained value behind `rcaValue`. -/
opaque rcaRaw : Rca

/-- `RCA_VALUE`: any 16-bit value but 0 (R11; 92_eei_decisions.md D9).  DESIGN CHOICE (log 7): the
form; every nonzero value is a value of `rcaRaw`. -/
def rcaValue : Rca := if rcaRaw = 0#16 then 1#16 else rcaRaw

/-- The unconstrained value behind `capacityBlocks`. -/
opaque capacityRaw : BitVec 32

/-- `CAPACITY_BLOCKS`: any number from 1 to 2^32 (R11; 92_eei_decisions.md D8). -/
def capacityBlocks : Nat := capacityRaw.toNat + 1

/-- The unconstrained value behind `ocrValue`. -/
opaque ocrRaw : BitVec 32

/-- `OCR_VALUE`: any 32-bit value with bits 31 and 30 set (R11; 92_eei_decisions.md D10, D32). -/
def ocrValue : BitVec 32 := ocrRaw ||| 0xC0000000#32

/-- `CID_VALUE` (R11). -/
opaque cidValue : BitVec 128

/-- `CSD_VALUE` (R11). -/
opaque csdValue : BitVec 128

/-- `SCR_VALUE` (R11). -/
opaque scrValue : BitVec 64

/-- `SWITCH_STATUS`: the 64-byte status block CMD6 returns, a pure function of the argument and of
`ENABLE_HS` (R11). -/
opaque switchStatus : BitVec 32 → Bool → Vector Byte 64

/-- `WAIT_BOUND`: none for the hardware; no rule of the model reads it (R11, R322). -/
def waitBound : Option Nat := none

/-- `BLOCK_BYTES` (R11). -/
def blockBytes : Nat := 512

/-- `BUF_WORDS` (R11). -/
def bufWords : Nat := 128

/-- The n-th `draw` of a run: a free value (R14, R81).  DESIGN CHOICE (log 5): the form. -/
opaque freeWord : Nat → Word32

end Sys2Proof.Config
end

