-- ==== Sys2Proof/Machine/Operands.lean ====
section
/-! DEFINITION. What the operands of commands and accesses stand for: block addresses
(43_block_io.md R252), counts (R250), bus-width codes (42_transfer_config.md R218), port addresses
(20_memory.md R71) and the byte order of a word (R74). -/

namespace Sys2Proof.Machine

/-- The 33-bit comparison of a block address with `CAPACITY_BLOCKS` (R252). -/
def outOfRange (a : Word32) : Bool := Config.capacityBlocks ≤ a.toNat

/-- The 33-bit comparison of the next block address with `CAPACITY_BLOCKS` (R266, R281). -/
def nextOutOfRange (a : Word32) : Bool := Config.capacityBlocks ≤ a.toNat + 1

/-- `StartCount` of a multi-block command: (bounded, num) (R250). -/
def multiBlockCount (pending : Word32) : Bool × Word32 :=
  if pending = 0#32 then (false, 0#32) else (true, pending)

/-- `StartCount` of a single-block command: (bounded, num) (R250). -/
def singleBlockCount : Bool × Word32 := (true, 1#32)

/-- The bus width an ACMD6 code selects; the reserved codes keep the width in force (R218). -/
def busWidthOfCode (code : BitVec 2) (current : BusWidth) : BusWidth :=
  if code = 0b00#2 then .one else if code = 0b10#2 then .four else current

/-- The buffer a port address selects (R71). -/
def portBuf (a : BitVec 8) : Buf := if a.getLsbD 7 then .wb else .rb

/-- The word index of a port address (R71). -/
def portIndex (a : BitVec 8) : Nat := (a.extractLsb' 0 7).toNat

/-- The four bytes of a word, most significant first (R74). -/
def wordBytes (v : Word32) : List Byte :=
  [v.extractLsb' 24 8, v.extractLsb' 16 8, v.extractLsb' 8 8, v.extractLsb' 0 8]

/-- The word of four bytes, most significant first (R74). -/
def wordOfBytes (b0 b1 b2 b3 : Byte) : Word32 := b0 ++ b1 ++ b2 ++ b3

/-- The 8 bytes of the SCR, most significant first (R224). -/
def scrBytes (scr : BitVec 64) : List Byte :=
  (List.range 8).map fun j => scr.extractLsb' (56 - 8 * j) 8

end Sys2Proof.Machine
end

