-- ==== Sys2Proof/Machine/Ops.lean ====
section
/-! DEFINITION. The named operations: the two buffers (20_memory.md), the output trace, raising an
error (60_exceptions.md), rejecting, dispatching and finishing a command (40_decoder.md), and the
abort and the core reset (70_reset_and_hazards.md). -/

namespace Sys2Proof.Machine

/-! ## The buffers (R70 to R81) -/

/-- Where a buffer starts in the cell list (log 4). -/
def bufBase : Buf → Nat
  | .rb => 0
  | .wb => 512

/-- The byte at an address; none where nothing has written it (R81). -/
def readByte : Memory → Nat → Option Byte
  | [], _ => none
  | (k, v) :: rest, a => if k = a then some v else readByte rest a

/-- Stores one byte, the addresses staying in rising order. -/
def writeByte : Memory → Nat → Byte → Memory
  | [], a, b => [(a, b)]
  | (k, v) :: rest, a, b =>
    if a < k then (a, b) :: (k, v) :: rest
    else if k = a then (a, b) :: rest
    else (k, v) :: writeByte rest a b

/-- `MemRead(buf, i, 4)` (R14, R74); none where the word is not written whole (R81). -/
def readWord (m : Memory) (b : Buf) (i : Nat) : Option Word32 :=
  match readByte m (bufBase b + 4 * i), readByte m (bufBase b + 4 * i + 1),
    readByte m (bufBase b + 4 * i + 2), readByte m (bufBase b + 4 * i + 3) with
  | some b0, some b1, some b2, some b3 => some (wordOfBytes b0 b1 b2 b3)
  | _, _, _, _ => none

/-- Stores bytes from an address upward. -/
def writeBytes (m : Memory) (a : Nat) : List Byte → Memory
  | [] => m
  | b :: rest => writeBytes (writeByte m a b) (a + 1) rest

/-- `MemWrite(buf, i, 4, v)` (R14, R74). -/
def writeWord (m : Memory) (b : Buf) (i : Nat) (v : Word32) : Memory :=
  writeBytes m (bufBase b + 4 * i) (wordBytes v)

/-- The cells of bytes that stand from an address upward. -/
def cellsFrom (a : Nat) : List Byte → Memory
  | [] => []
  | b :: rest => (a, b) :: cellsFrom (a + 1) rest

/-- A whole block into a buffer: byte n of the block becomes byte n of the buffer, which is every
`MemWrite` of R276 with the byte order of R74. -/
def writeBlock (m : Memory) (b : Buf) (bytes : List Byte) : Memory :=
  m.filter (fun c => c.1 < bufBase b) ++ cellsFrom (bufBase b) bytes
    ++ m.filter (fun c => bufBase b + 512 ≤ c.1)

/-- Every word of a buffer unwritten (R276 for a bad block; 93_implementation_defined.md U5;
log 8). -/
def dropBlock (m : Memory) (b : Buf) : Memory :=
  m.filter (fun c => c.1 < bufBase b) ++ m.filter (fun c => bufBase b + 512 ≤ c.1)

/-- The canonical form: addresses strictly rising, none beyond the two buffers. -/
abbrev Memory.wf (m : Memory) : Prop :=
  m.Pairwise (fun c d => c.1 < d.1) ∧ ∀ c ∈ m, c.1 < 1024

/-- The 128 words of a buffer (R73). -/
def bufWords (m : Memory) (b : Buf) : List (Option Word32) :=
  (List.range 128).map (readWord m b)

/-- Words with a draw for each unwritten one, and the count of draws after them (R81). -/
def fillDraws : List (Option Word32) → Nat → List Word32 × Nat
  | [], n => ([], n)
  | some w :: rest, n => (w :: (fillDraws rest n).1, (fillDraws rest n).2)
  | none :: rest, n => (Config.freeWord n :: (fillDraws rest (n + 1)).1, (fillDraws rest (n + 1)).2)

/-- `BufBytes(buf)`: the 512 bytes of a buffer, unwritten words drawn (R74, R81). -/
def bufBytes (s : State) (b : Buf) : List Byte :=
  (fillDraws (bufWords s.mem b) s.draws).1.flatMap wordBytes

/-- The count of draws after reading a whole buffer. -/
def drawsAfter (s : State) (b : Buf) : Nat := (fillDraws (bufWords s.mem b) s.draws).2

/-! ## The output trace (R49) -/

/-- `emit`, `emitToken`, `emitData`: appends to the trace (R14, R49). -/
def emit (o : Output) (s : State) : State := { s with out := s.out ++ [o] }

/-- `emit R(...)` (R14). -/
def respond (r : Response) (s : State) : State := emit (.response r) s

/-- `emitData(bytes)` with the CRC list of the width in force (R119). -/
def sendData (bytes : List Byte) (s : State) : State :=
  emit (.data bytes (dataCrc bytes s.busWidth)) s

/-! ## Errors (R300 to R316)

The core takes no trap: an error is a flag raised in the event of its cause, nothing is saved and
nothing vectors (R300, R312), and there is no return (R313). -/

/-- Raises the flag of an error class (R301, R312). -/
def raiseError (e : ErrorClass) (s : State) : State :=
  match e with
  | .protocolFraming => { s with errCmdCrc := true }
  | .unsupportedCommand => { s with errUnhandledCmd := true }
  | .outOfRangeAddress => { s with errOpOutRange := true }
  | .modeViolation => { s with errHostIsSpi := true }
  | .deselection => { s with infoCardDesel := true }

/-- `raise Fault(reason)`: records a model fault (R316). -/
def recordFault (f : Fault) (s : State) : State :=
  match f with
  | .rbRace => { s with faults := { s.faults with rbRace := true } }
  | .wbRace => { s with faults := { s.faults with wbRace := true } }

/-! ## Command frames (R142 to R150) -/

/-- Every surfaced frame clears `app_cmd` before anything else (R142, R143). -/
def beginFrame (s : State) : State := { s with appCmd := false }

/-- `Reject_CRC()` (R145). -/
def rejectCrc (s : State) : State :=
  raiseError .protocolFraming { s with stComCrcError := true }

/-- `Reject_Illegal()` (R147, R148). -/
def rejectIllegal (s : State) : State :=
  raiseError .unsupportedCommand { s with stIllegalCommand := true }

/-- `Finish(c)` (R146): `keepCount` for CMD23, `reported` for a command that emitted an R1 or R1b. -/
def finish (keepCount reported : Bool) (s : State) : State :=
  { s with
    stComCrcError := false
    stIllegalCommand := false
    blkCountPending := if keepCount then s.blkCountPending else 0#32
    stOutOfRange := if reported then false else s.stOutOfRange }

/-- The legality check of R142 and R148 before a command's own rule, which is given the state
before the command's effects (R144) and ends with its `finish`. -/
def dispatch (legal : List CardState) (rule : State → State) (s : State) : State :=
  if s.cardState ∈ legal then rule (beginFrame s) else rejectIllegal (beginFrame s)

/-- The addressing check of R150: a frame for another card has no effect. -/
def ifAddressed (rca : Rca) (rule : State → State) (p : State) : State :=
  if rca = p.rca then rule p else p

/-! ## Abort and reset (R340, R346) -/

/-- `Abort()` (R346). -/
def abort (s : State) : State :=
  { s with
    blockReadAct := false
    blockWriteAct := false
    blockReadNum := 0#32
    blockWriteNum := 0#32
    rdPhase := .rIdle
    rdRegPayload := []
    wrPhase := .wIdle
    wrFirst := false
    wrStopping := false
    xferBounded := false }

/-- What CMD0 and a deselect share: the abort and the way back to Idle (R170, R200). -/
def backToIdle (s : State) : State :=
  { abort s with
    cardState := .idle
    rca := 0#16
    busWidth := .one
    hsActive := false
    xferBounded := false }

/-- The platform's `Reset` (R340): every field of R51 at its reset value but the buffers, `faults`
and `out`, which it keeps, and the model's own fields (log 1, 3, 5, 6). -/
def platformReset (s : State) : State :=
  { State.reset with
    mem := s.mem
    faults := s.faults
    out := s.out
    inputs := s.inputs
    dat3 := s.dat3
    draws := s.draws
    portData := s.portData }

end Sys2Proof.Machine
end

