-- ==== Sys2Proof/Machine/Consumer.lean ====
section
/-! DEFINITION. The consumer's buffer port and its reads of the status outputs: 20_memory.md rules
R71, R79, R80 and R84.  A read's result is left in `portData` (log 6). -/

namespace Sys2Proof.Machine

/-- Whether a consumer read of a buffer races with the host's stream into it (R79). -/
def readRaces (b : Buf) (s : State) : Bool := b = .wb ∧ s.wrPhase = .waitData

/-- The word a consumer read finds; none where it is a draw (R79, R81). -/
def portWord (a : BitVec 8) (s : State) : Option Word32 :=
  if readRaces (portBuf a) s then none else readWord s.mem (portBuf a) (portIndex a)

/-- `ConsumerBufRead(a)` (R79). -/
def consumerBufRead (a : BitVec 8) (s : State) : State :=
  match portWord a s with
  | some w => { s with portData := w }
  | none => { s with portData := Config.freeWord s.draws, draws := s.draws + 1 }

/-- The model fault a consumer write to a buffer records, if any (R80, R316). -/
def writeRace (b : Buf) (s : State) : Option Fault :=
  match b with
  | .rb => if s.rdPhase = .sending then some .rbRace else none
  | .wb => if s.wrPhase = .waitData then some .wbRace else none

/-- `ConsumerBufWrite(a, v)` (R80): the write is performed in every case. -/
def consumerBufWrite (a : BitVec 8) (v : Word32) (s : State) : State :=
  let t := match writeRace (portBuf a) s with
    | some f => recordFault f s
    | none => s
  { t with mem := writeWord s.mem (portBuf a) (portIndex a) v }

/-- A read of a status output, which changes no state of the core (R9, R77, R84). -/
def consumerStatusRead (o : StatusOutput) (s : State) : State :=
  { s with portData := statusValue s o }

end Sys2Proof.Machine
end

