-- ==== Sys2Proof/Machine/Response.lean ====
section
/-! DEFINITION. The response generator: the constructors of 30_encoding.md rule R107, in the
layouts of R101 to R106, and the CRC status tokens of R120. -/

namespace Sys2Proof.Machine

/-- R1 (R101, R107). -/
def r1 (index : BitVec 6) (st : BitVec 32) : Response :=
  .short48 (sealFrame (0b00#2 ++ index ++ st)) false

/-- R1b: the bits of R1 with the busy flag (R102, R107). -/
def r1b (index : BitVec 6) (st : BitVec 32) : Response :=
  .short48 (sealFrame (0b00#2 ++ index ++ st)) true

/-- R2: bits 127:1 of the register as given, no CRC computed (R103, R107). -/
def r2 (reg : BitVec 128) : Response :=
  .long136 (0b00#2 ++ 0b111111#6 ++ reg.extractLsb' 1 127 ++ 1#1)

/-- R3: no CRC (R104, R107). -/
def r3 (ocr : BitVec 32) : Response :=
  .short48 (0b00#2 ++ 0b111111#6 ++ ocr ++ 0b1111111#7 ++ 1#1) false

/-- R6 (R105, R107). -/
def r6 (rca : Rca) (st16 : BitVec 16) : Response :=
  .short48 (sealFrame (0b00#2 ++ 0b000011#6 ++ rca ++ st16)) false

/-- R7 (R106, R107). -/
def r7 (vhs : BitVec 4) (pattern : BitVec 8) : Response :=
  .short48 (sealFrame (0b00#2 ++ 0b001000#6 ++ 0#20 ++ vhs ++ pattern)) false

/-- The token for a good block (R120). -/
def tokenAccepted : BitVec 3 := 0b010#3

/-- The token for a bad block (R120). -/
def tokenCrcError : BitVec 3 := 0b101#3

end Sys2Proof.Machine
end

