-- ==== Sys2Proof/Machine/BlockIo.lean ====
section
/-! DEFINITION. The block I/O sequencer: the transfer commands, the host data events and the
consumer strobes of 43_block_io.md. -/

namespace Sys2Proof.Machine

/-! ## Commands -/

/-- `Exec_Read(c, p, a)` with the count `StartCount(c, p)` (R250, R252). -/
def startRead (index : BitVec 6) (count : Bool × Word32) (a : Word32) (p : State) : State :=
  if outOfRange a then
    raiseError .outOfRangeAddress (respond (r1 index (cardStatus p true false)) p)
  else
    { respond (r1 index (cardStatus p false false)) p with
      xferBounded := count.1
      blockReadNum := count.2
      blockReadAddr := a
      blockReadStop := false
      blockReadAct := true
      rdPhase := .waitGo
      cardState := .sendData }

/-- CMD17 (R252). -/
def execReadSingleBlock (addr : Word32) (s : State) : Host.Outcome State Fault Refusal :=
  .next (dispatch [.transfer]
    (fun p => finish false true (startRead 17#6 singleBlockCount addr p)) s)

/-- CMD18 (R252). -/
def execReadMultipleBlock (addr : Word32) (s : State) : Host.Outcome State Fault Refusal :=
  .next (dispatch [.transfer]
    (fun p => finish false true (startRead 18#6 (multiBlockCount p.blkCountPending) addr p)) s)

/-- `Exec_Write(c, p, a)` with the count `StartCount(c, p)` (R250, R254). -/
def startWrite (index : BitVec 6) (count : Bool × Word32) (a : Word32) (p : State) : State :=
  if outOfRange a then
    raiseError .outOfRangeAddress (respond (r1 index (cardStatus p true false)) p)
  else
    { respond (r1 index (cardStatus p false false)) p with
      xferBounded := count.1
      blockWriteNum := count.2
      blockWriteAddr := a
      wrFirst := true
      wrStopping := false
      blockWriteAct := false
      wrPhase := .waitData
      cardState := .receiveData }

/-- CMD24 (R254). -/
def execWriteBlock (addr : Word32) (s : State) : Host.Outcome State Fault Refusal :=
  .next (dispatch [.transfer]
    (fun p => finish false true (startWrite 24#6 singleBlockCount addr p)) s)

/-- CMD25 (R254). -/
def execWriteMultipleBlock (addr : Word32) (s : State) : Host.Outcome State Fault Refusal :=
  .next (dispatch [.transfer]
    (fun p => finish false true (startWrite 25#6 (multiBlockCount p.blkCountPending) addr p)) s)

/-- The read side of CMD12 (R260). -/
def stopRead (s : State) : State :=
  { s with
    blockReadStop := if s.rdPhase = .sendingReg then s.blockReadStop else true
    blockReadAct := false
    rdPhase := .rIdle
    rdRegPayload := []
    cardState := .transfer }

/-- The write side of CMD12 (R260): a landed block is still the consumer's. -/
def stopWrite (s : State) : State :=
  if s.wrPhase = .waitDone then
    { s with wrStopping := true, cardState := .programming }
  else
    { s with wrPhase := .wIdle, wrFirst := false, cardState := .transfer }

/-- CMD12 (R260). -/
def execStopTransmission (s : State) : Host.Outcome State Fault Refusal :=
  .next (dispatch [.sendData, .receiveData]
    (fun p =>
      let q := respond (r1b 12#6 (cardStatus p false false)) p
      finish false true (if p.cardState = .sendData then stopRead q else stopWrite q)) s)

/-! ## Read path events -/

/-- `ConsumerGo` (R264). -/
def consumerGo (s : State) : State :=
  if s.rdPhase = .waitGo then
    { s with
      blockReadAct := false
      blockReadNum := if s.xferBounded then s.blockReadNum - 1#32 else s.blockReadNum
      rdPhase := .sending }
  else s

/-- `ReadAdvance()` (R266). -/
def readAdvance (s : State) : State :=
  if nextOutOfRange s.blockReadAddr then
    raiseError .outOfRangeAddress { s with stOutOfRange := true, rdPhase := .rHalted }
  else
    { s with
      blockReadAddr := s.blockReadAddr + 1#32
      blockReadAct := true
      rdPhase := .waitGo }

/-- The read buffer's block goes out, unwritten words as draws, and `data_out_done` follows
(R81, R268). -/
def sendBuffer (s : State) : State :=
  emit .dataOutDone { sendData (bufBytes s .rb) s with draws := drawsAfter s .rb }

/-- The register block goes out (R269). -/
def sendRegister (s : State) : State :=
  { emit .dataOutDone (sendData s.rdRegPayload s) with
    rdRegPayload := []
    rdPhase := .rIdle
    cardState := .transfer }

/-- `HostDataOut` (R268, R269). -/
def hostDataOut (s : State) : State :=
  match s.rdPhase with
  | .sending =>
    if s.xferBounded = true ∧ s.blockReadNum = 0#32 then
      { sendBuffer s with rdPhase := .rIdle, cardState := .transfer }
    else readAdvance (sendBuffer s)
  | .sendingReg => sendRegister s
  | .rIdle => s
  | .waitGo => s
  | .rHalted => s

/-! ## Write path events -/

/-- A good block lands (R276). -/
def landBlock (bytes : List Byte) (s : State) : State :=
  { emit (.token tokenAccepted) s with
    mem := writeBlock s.mem .wb bytes
    blockWriteAddr := if s.wrFirst then s.blockWriteAddr else s.blockWriteAddr + 1#32
    wrFirst := false
    blockWriteAct := true
    wrPhase := .waitDone
    cardState := if s.xferBounded = true ∧ s.blockWriteNum = 1#32 then .programming
      else s.cardState }

/-- A bad block: the token says so and the write buffer's words are no longer promised (R276). -/
def rejectBlock (s : State) : State :=
  { emit (.token tokenCrcError) s with mem := dropBlock s.mem .wb }

/-- `HostDataIn(bytes, crcs)` (R276). -/
def hostDataIn (bytes : List Byte) (crcs : List (BitVec 16)) (s : State) : State :=
  if s.wrPhase = .waitData then
    if goodBlock bytes crcs s.busWidth then landBlock bytes s else rejectBlock s
  else s

/-- `WriteAdvanceCheck()` (R281). -/
def writeAdvanceCheck (s : State) : State :=
  if nextOutOfRange s.blockWriteAddr then
    raiseError .outOfRangeAddress { s with stOutOfRange := true, wrPhase := .wHalted }
  else { s with wrPhase := .waitData }

/-- The request is serviced: the level falls and a bounded count goes down (R280). -/
def serviceWrite (s : State) : State :=
  { s with
    blockWriteAct := false
    blockWriteNum := if s.xferBounded then s.blockWriteNum - 1#32 else s.blockWriteNum }

/-- The end of a write transfer (R280). -/
def endWrite (s : State) : State :=
  { s with wrPhase := .wIdle, wrStopping := false, wrFirst := false, cardState := .transfer }

/-- `ConsumerDone` (R280). -/
def consumerDone (s : State) : State :=
  if s.wrPhase = .waitDone then
    let t := serviceWrite s
    if (t.xferBounded = true ∧ t.blockWriteNum = 0#32) ∨ t.wrStopping = true then endWrite t
    else writeAdvanceCheck t
  else s

end Sys2Proof.Machine
end

