-- ==== Sys2Proof/Machine/Identification.lean ====
section
/-! DEFINITION. The identification, addressing and selection commands: 41_identification.md.
Legal states are those of 40_decoder.md rule R149. -/

namespace Sys2Proof.Machine

/-- CMD0 (R170, R176): in every state, no response (R171). -/
def execGoIdleState (s : State) : Host.Outcome State Fault Refusal :=
  let p := beginFrame s
  let p := if p.dat3 then p else raiseError .modeViolation p
  .next (finish false false
    { backToIdle p with
      blkCountPending := 0#32
      stOutOfRange := false
      stComCrcError := false
      stIllegalCommand := false })

/-- CMD8 (R178). -/
def execSendIfCond (vhs : BitVec 4) (pattern : BitVec 8) (s : State) :
    Host.Outcome State Fault Refusal :=
  .next (dispatch [.idle]
    (fun p => finish false false (if vhs = 0b0001#4 then respond (r7 vhs pattern) p else p)) s)

/-- CMD55 (R180). -/
def execAppCmd (rca : Rca) (s : State) : Host.Outcome State Fault Refusal :=
  .next (dispatch [.idle, .standby, .transfer]
    (ifAddressed rca fun p =>
      finish false true (respond (r1 55#6 (cardStatus p false true)) { p with appCmd := true })) s)

/-- ACMD41 (R183): the card is always ready; a zero window is an inquiry. -/
def execSdSendOpCond (window : BitVec 24) (s : State) : Host.Outcome State Fault Refusal :=
  .next (dispatch [.idle]
    (fun p =>
      finish false false (respond (r3 Config.ocrValue)
        { p with cardState := if window = 0#24 then p.cardState else .ready })) s)

/-- CMD2 (R186). -/
def execAllSendCid (s : State) : Host.Outcome State Fault Refusal :=
  .next (dispatch [.ready]
    (fun p => finish false false
      (respond (r2 Config.cidValue) { p with cardState := .identification })) s)

/-- CMD3 (R190, R191). -/
def execSendRelativeAddr (s : State) : Host.Outcome State Fault Refusal :=
  .next (dispatch [.identification, .standby]
    (fun p => finish false false
      (respond (r6 Config.rcaValue (r6Status (cardStatus p false false)))
        { p with rca := Config.rcaValue, cardState := .standby })) s)

/-- CMD9 (R193). -/
def execSendCsd (rca : Rca) (s : State) : Host.Outcome State Fault Refusal :=
  .next (dispatch [.standby]
    (ifAddressed rca fun p => finish false false (respond (r2 Config.csdValue) p)) s)

/-- CMD10 (R194). -/
def execSendCid (rca : Rca) (s : State) : Host.Outcome State Fault Refusal :=
  .next (dispatch [.standby]
    (ifAddressed rca fun p => finish false false (respond (r2 Config.cidValue) p)) s)

/-- CMD13 (R196). -/
def execSendStatus (rca : Rca) (s : State) : Host.Outcome State Fault Refusal :=
  .next (dispatch [.standby, .transfer, .sendData, .receiveData, .programming, .disconnect]
    (ifAddressed rca fun p =>
      finish false true (respond (r1 13#6 (cardStatus p false false)) p)) s)

/-- The select of CMD7 (R198): `Finish` included. -/
def selectCard (p : State) : State :=
  finish false true (respond (r1b 7#6 (cardStatus p false false))
    { p with cardState := .transfer, infoCardDesel := false })

/-- The deselect of CMD7 (R200): `Finish` included. -/
def deselectCard (p : State) : State :=
  finish false false (raiseError .deselection (backToIdle p))

/-- CMD7 (R198, R200): another card's RCA is a deselect in every state, before the legality check
(R142). -/
def execSelectDeselectCard (rca : Rca) (s : State) : Host.Outcome State Fault Refusal :=
  .next (if rca = s.rca then dispatch [.standby, .transfer] selectCard s
    else deselectCard (beginFrame s))

end Sys2Proof.Machine
end

