-- ==== Sys2Proof/Machine/TransferConfig.lean ====
section
/-! DEFINITION. Configuration, register reads and erase commands: 42_transfer_config.md.  All are
legal in Transfer alone (40_decoder.md rule R149). -/

namespace Sys2Proof.Machine

/-- A register block made ready for the host (R210, R224). -/
def offerRegister (payload : List Byte) (s : State) : State :=
  { s with rdRegPayload := payload, rdPhase := .sendingReg, cardState := .sendData }

/-- CMD6 (R210): `groups` reaches only the status block. -/
def execSwitchFunc (mode : BitVec 1) (groups : BitVec 27) (fg1 : BitVec 4) (s : State) :
    Host.Outcome State Fault Refusal :=
  .next (dispatch [.transfer]
    (fun p => finish false true (offerRegister
      (Config.switchStatus (mode ++ groups ++ fg1) Config.enableHs).toList
      (respond (r1 6#6 (cardStatus p false false))
        { p with
          hsActive := if mode = 1#1 ∧ fg1 = 0x1#4 ∧ Config.enableHs = true then true
            else p.hsActive }))) s)

/-- CMD16 (R212): the length is ignored. -/
def execSetBlocklen (s : State) : Host.Outcome State Fault Refusal :=
  .next (dispatch [.transfer]
    (fun p => finish false true (respond (r1 16#6 (cardStatus p false false)) p)) s)

/-- CMD23 (R214): the one command after which a pending count stays (R146). -/
def execSetBlockCount (count : Word32) (s : State) : Host.Outcome State Fault Refusal :=
  .next (dispatch [.transfer]
    (fun p => finish true true (respond (r1 23#6 (cardStatus p false false))
      { p with blkCountPending := count })) s)

/-- ACMD6 (R218). -/
def execSetBusWidth (width : BitVec 2) (s : State) : Host.Outcome State Fault Refusal :=
  .next (dispatch [.transfer]
    (fun p => finish false true (respond (r1 6#6 (cardStatus p false true))
      { p with busWidth := busWidthOfCode width p.busWidth })) s)

/-- ACMD23 (R222). -/
def execSetWrBlkEraseCount (count : BitVec 23) (s : State) : Host.Outcome State Fault Refusal :=
  .next (dispatch [.transfer]
    (fun p => finish false true (respond (r1 23#6 (cardStatus p false true))
      { p with preeraseNum := count })) s)

/-- ACMD51 (R224). -/
def execSendScr (s : State) : Host.Outcome State Fault Refusal :=
  .next (dispatch [.transfer]
    (fun p => finish false true (offerRegister (scrBytes Config.scrValue)
      (respond (r1 51#6 (cardStatus p false true)) p))) s)

/-- CMD32 (R228). -/
def execEraseWrBlkStart (addr : Word32) (s : State) : Host.Outcome State Fault Refusal :=
  .next (dispatch [.transfer]
    (fun p => finish false true
      (if outOfRange addr then
        raiseError .outOfRangeAddress (respond (r1 32#6 (cardStatus p true false)) p)
      else respond (r1 32#6 (cardStatus p false false)) { p with eraseStart := addr })) s)

/-- CMD33 (R230). -/
def execEraseWrBlkEnd (addr : Word32) (s : State) : Host.Outcome State Fault Refusal :=
  .next (dispatch [.transfer]
    (fun p => finish false true
      (if outOfRange addr then
        raiseError .outOfRangeAddress (respond (r1 33#6 (cardStatus p true false)) p)
      else respond (r1 33#6 (cardStatus p false false)) { p with eraseEnd := addr })) s)

/-- CMD38 (R232): through Programming and back to Transfer within the event; no block changes. -/
def execErase (s : State) : Host.Outcome State Fault Refusal :=
  .next (dispatch [.transfer]
    (fun p =>
      let programming := { respond (r1b 38#6 (cardStatus p false false)) p with
        cardState := .programming }
      finish false true { programming with cardState := .transfer }) s)

end Sys2Proof.Machine
end

