-- ==== Sys2Proof/Machine/Dispatch.lean ====
section
/-! DEFINITION. One arm per command: 40_decoder.md rule R142 from the resolved command on. -/

namespace Sys2Proof.Machine

/-- The effect of a surfaced frame with a good CRC that resolves to `i`. -/
def exec (i : Instr) (s : State) : Host.Outcome State Fault Refusal :=
  match i with
  | .goIdleState _ => Sys2Proof.Machine.execGoIdleState s
  | .allSendCid _ => Sys2Proof.Machine.execAllSendCid s
  | .sendRelativeAddr _ => Sys2Proof.Machine.execSendRelativeAddr s
  | .switchFunc mode groups fg1 => Sys2Proof.Machine.execSwitchFunc mode groups fg1 s
  | .selectDeselectCard rca _ => Sys2Proof.Machine.execSelectDeselectCard rca s
  | .sendIfCond _ vhs pattern => Sys2Proof.Machine.execSendIfCond vhs pattern s
  | .sendCsd rca _ => Sys2Proof.Machine.execSendCsd rca s
  | .sendCid rca _ => Sys2Proof.Machine.execSendCid rca s
  | .stopTransmission _ => Sys2Proof.Machine.execStopTransmission s
  | .sendStatus rca _ => Sys2Proof.Machine.execSendStatus rca s
  | .setBlocklen _ => Sys2Proof.Machine.execSetBlocklen s
  | .readSingleBlock addr => Sys2Proof.Machine.execReadSingleBlock addr s
  | .readMultipleBlock addr => Sys2Proof.Machine.execReadMultipleBlock addr s
  | .setBlockCount count => Sys2Proof.Machine.execSetBlockCount count s
  | .writeBlock addr => Sys2Proof.Machine.execWriteBlock addr s
  | .writeMultipleBlock addr => Sys2Proof.Machine.execWriteMultipleBlock addr s
  | .eraseWrBlkStart addr => Sys2Proof.Machine.execEraseWrBlkStart addr s
  | .eraseWrBlkEnd addr => Sys2Proof.Machine.execEraseWrBlkEnd addr s
  | .erase _ => Sys2Proof.Machine.execErase s
  | .appCmd rca _ => Sys2Proof.Machine.execAppCmd rca s
  | .setBusWidth _ width => Sys2Proof.Machine.execSetBusWidth width s
  | .setWrBlkEraseCount _ count => Sys2Proof.Machine.execSetWrBlkEraseCount count s
  | .sdSendOpCond _ _ _ window => Sys2Proof.Machine.execSdSendOpCond window s
  | .sendScr _ => Sys2Proof.Machine.execSendScr s

end Sys2Proof.Machine
end

