-- ==== Sys2Proof/Machine/Link.lean ====
section
/-! DEFINITION. The reaction of the core to one event: 00_scope.md rule R9, 40_decoder.md rules
R140 to R147. -/

namespace Sys2Proof.Machine

/-- `HostCommand(f, dat3)` (R140, R142): the DAT3 level is kept for the command in hand (log 3). -/
def hostCommand (f : Frame) (dat3 : Bool) (s : State) : Host.Outcome State Fault Refusal :=
  match decode s.appCmd f with
  | .notSurfaced => .next s
  | .crcFailure => .next (rejectCrc (beginFrame s))
  | .unknown => .next (rejectIllegal (beginFrame s))
  | .command i => exec i { s with dat3 := dat3 }

/-- The reaction to an event (R9, R82): complete before the next event. -/
def react (e : Event) (s : State) : Host.Outcome State Fault Refusal :=
  match e with
  | .hostCommand f dat3 => hostCommand f dat3 s
  | .hostDataIn bytes crcs => .next (hostDataIn bytes crcs s)
  | .hostDataOut => .next (hostDataOut s)
  | .consumerGo => .next (consumerGo s)
  | .consumerDone => .next (consumerDone s)
  | .consumerBufRead a => .next (consumerBufRead a s)
  | .consumerBufWrite a v => .next (consumerBufWrite a v s)
  | .consumerStatusRead o => .next (consumerStatusRead o s)
  | .reset => .next (platformReset s)

/-- Takes the next event and reacts to it.  The core has no event of its own (R9): where none is
to come it waits, unchanged (R322; log 1). -/
def takeEvent (s : State) : Host.Outcome State Fault Refusal :=
  match s.inputs with
  | [] => .next s
  | e :: rest => react e { s with inputs := rest }

/-- A command frame as the next event, with DAT3 high and `app_cmd` as the frame needs it, so that
the next step runs the command the frame stands for (log 2). -/
def placeFrame (f : Frame) (s : State) : State :=
  { s with inputs := .hostCommand f true :: s.inputs, appCmd := tableApp f }

end Sys2Proof.Machine
end

