-- ==== Sys2Proof/Machine/Step.lean ====
section
/-! DEFINITION. One step: one event of one agent and the core's reaction to it (00_scope.md rule
R9, 20_memory.md rule R82). -/

namespace Sys2Proof.Machine

/-- One step. -/
def step (s : State) : Host.Outcome State Fault Refusal := takeEvent s

/-- `s` with the frame of a table word as its next event (log 2). -/
def State.withFetchWord (s : State) (nbits w : Nat) : State := placeFrame (tableFrame nbits w) s

end Sys2Proof.Machine
end

