-- ==== Sys2Proof/Safety.lean ====
section
/-! DEFINITION. What a run of the core keeps: the invariants of 10_state.md rules R20 to R39 and R50,
and the consumer duties of 60_exceptions.md rule R334 whose breach is recorded as a fault. -/

namespace Sys2Proof.Machine

/-- The table of R50: which phases go with a card state; Disconnect goes with none. -/
def phasesAgree (c : CardState) (r : RdPhase) (w : WrPhase) : Bool :=
  match c with
  | .idle | .ready | .identification | .standby | .transfer => r = .rIdle ∧ w = .wIdle
  | .sendData => r ≠ .rIdle ∧ w = .wIdle
  | .receiveData => r = .rIdle ∧ w ≠ .wIdle
  | .programming => r = .rIdle ∧ w = .waitDone
  | .disconnect => false

/-- A buffer transfer to the host is under way (R26). -/
def reading (s : State) : Bool :=
  s.rdPhase = .waitGo ∨ s.rdPhase = .sending ∨ s.rdPhase = .rHalted

/-- A transfer from the host is under way (R27). -/
def writing (s : State) : Bool := s.wrPhase ≠ .wIdle

/-- A block address of the card (R252, R254). -/
def inCard (a : Word32) : Prop := a.toNat < Config.capacityBlocks

/-- What every state the model reaches satisfies. -/
structure CoreInvariant (s : State) : Prop where
  /-- R50. -/
  phases : phasesAgree s.cardState s.rdPhase s.wrPhase = true
  /-- R30, R50. -/
  readLevel : s.blockReadAct = true ↔ s.rdPhase = .waitGo
  /-- R34, R50. -/
  writeLevel : s.blockWriteAct = true ↔ s.wrPhase = .waitDone
  /-- R22; 92_eei_decisions.md D9. -/
  address : s.rca = if s.cardState ∈ [.idle, .ready, .identification] then 0#16 else Config.rcaValue
  /-- R26. -/
  payload : if s.rdPhase = .sendingReg then s.rdRegPayload.length = 8 ∨ s.rdRegPayload.length = 64
    else s.rdRegPayload = []
  /-- R32: the block requested is still counted, so the count never wraps (R53). -/
  readCount : s.rdPhase = .waitGo → s.xferBounded = true → s.blockReadNum ≠ 0#32
  /-- R32: 0 throughout an open-ended read. -/
  readOpen : reading s = true → s.xferBounded = false → s.blockReadNum = 0#32
  /-- R53, R266: the address of a read never leaves the card. -/
  readInCard : reading s = true → inCard s.blockReadAddr
  /-- R36: the count never wraps (R53). -/
  writeCount : writing s = true → s.xferBounded = true → s.blockWriteNum ≠ 0#32
  /-- R36: 0 throughout an open-ended write. -/
  writeOpen : writing s = true → s.xferBounded = false → s.blockWriteNum = 0#32
  /-- R53, R281: the address of a write never leaves the card. -/
  writeInCard : writing s = true → inCard s.blockWriteAddr
  /-- R276: the check of R281 ran before a later block could land. -/
  nextInCard : s.wrPhase = .waitData → s.wrFirst = false →
    s.blockWriteAddr.toNat + 1 < Config.capacityBlocks
  /-- R260, R276: the card is in Programming for its last block or after a stop. -/
  lastBlock : s.cardState = .programming →
    s.wrStopping = true ∨ (s.xferBounded = true ∧ s.blockWriteNum = 1#32)
  /-- R228, R230: the published erase range lies in the card. -/
  eraseInCard : inCard s.eraseStart ∧ inCard s.eraseEnd
  /-- The cell list keeps its canonical form (log 4). -/
  buffers : s.mem.wf

/-- Each word is written whole or not at all, as the word-wide port and the whole-block landing
leave it (R73, R81). -/
def wholeWords (m : Memory) : Prop :=
  ∀ b : Buf, ∀ i < 128, (readWord m b i).isSome = true ∨
    ∀ k < 4, readByte m (bufBase b + 4 * i + k) = none

/-- No broken obligation has been recorded: what a claim about a run assumes (R316). -/
def faultFree (s : State) : Prop := s.faults = { rbRace := false, wbRace := false }

/-- The first two consumer duties of R334: no write to a buffer that is being streamed. -/
def keepsDuty (s : State) : Event → Bool
  | .consumerBufWrite a _ => writeRace (portBuf a) s = none
  | .hostCommand _ _ => true
  | .hostDataIn _ _ => true
  | .hostDataOut => true
  | .consumerGo => true
  | .consumerDone => true
  | .consumerBufRead _ => true
  | .consumerStatusRead _ => true
  | .reset => true

end Sys2Proof.Machine
end

