-- ==== Sys2Proof/Certificates/Slice0/Obligations.lean ====
section
/-! DEFINITION. The statements for the provers: what the commands and the events do, and what every
step keeps. -/

open Sys2Proof Sys2Proof.Machine

namespace Sys2Proof.Statements

/-- `s` with an event to come next. -/
def withEvent (e : Event) (s : State) : State := { s with inputs := e :: s.inputs }

/-- What every accepted command leaves (R143, R146), before its own effects. -/
def accepted (s : State) : State :=
  { s with appCmd := false, stComCrcError := false, stIllegalCommand := false,
           blkCountPending := 0#32 }

/-- An accepted command answered with `r`, which is neither R1 nor R1b. -/
def answered (r : Response) (s : State) : State :=
  { accepted s with out := s.out ++ [.response r] }

/-- An accepted command answered with `r`, an R1 or R1b, which reports OUT_OF_RANGE (R112). -/
def answeredR1 (r : Response) (s : State) : State :=
  { answered r s with stOutOfRange := false }

/-- A frame rejected as unknown or illegal (R147, R148). -/
def rejected (s : State) : State :=
  { s with appCmd := false, errUnhandledCmd := true, stIllegalCommand := true }

/-- The field values CMD0 and a deselect have in common (R342, R346). -/
def aborted (s : State) : State :=
  { s with
    blockReadAct := false, blockWriteAct := false, blockReadNum := 0#32, blockWriteNum := 0#32,
    rdPhase := .rIdle, rdRegPayload := [], wrPhase := .wIdle, wrFirst := false,
    wrStopping := false, xferBounded := false, cardState := .idle, rca := 0#16,
    busWidth := .one, hsActive := false }

/-- A consumer read of the status output `o` returns `v` and changes nothing else (R77, R84). -/
def statusReads (s : State) (o : StatusOutput) (v : Word32) : Prop :=
  step (withEvent (.consumerStatusRead o) s) = .next { s with portData := v }

/-- A flag as the word a status read returns: the width is the model's choice (log 6). -/
def flagWord (b : Bool) : Word32 := if b then 1#32 else 0#32

end Sys2Proof.Statements

open Sys2Proof.Statements

/-! ## Reset -/

/-- R51, R341: the state at power-up, field by field, the buffers unwritten.  The four fields the
model adds (`inputs`, `dat3`, `draws`, `portData`) are left out: no claim rests on their values. -/
def Obligations.PowerUpValues : Prop :=
  State.reset.cardState = .idle ∧ State.reset.rca = 0#16 ∧ State.reset.appCmd = false ∧
  State.reset.blkCountPending = 0#32 ∧ State.reset.xferBounded = false ∧
  State.reset.rdPhase = .rIdle ∧ State.reset.rdRegPayload = [] ∧
  State.reset.wrPhase = .wIdle ∧ State.reset.wrFirst = false ∧
  State.reset.wrStopping = false ∧ State.reset.busWidth = .one ∧
  State.reset.hsActive = false ∧ State.reset.stOutOfRange = false ∧
  State.reset.stComCrcError = false ∧ State.reset.stIllegalCommand = false ∧
  State.reset.blockReadAct = false ∧ State.reset.blockReadStop = false ∧
  State.reset.blockReadAddr = 0#32 ∧ State.reset.blockReadNum = 0#32 ∧
  State.reset.blockWriteAct = false ∧ State.reset.blockWriteAddr = 0#32 ∧
  State.reset.blockWriteNum = 0#32 ∧ State.reset.preeraseNum = 0#23 ∧
  State.reset.eraseStart = 0#32 ∧ State.reset.eraseEnd = 0#32 ∧
  State.reset.infoCardDesel = false ∧ State.reset.errCmdCrc = false ∧
  State.reset.errUnhandledCmd = false ∧ State.reset.errOpOutRange = false ∧
  State.reset.errHostIsSpi = false ∧ faultFree State.reset ∧ State.reset.out = [] ∧
  ∀ b : Buf, ∀ i : Nat, readWord State.reset.mem b i = none

/-- The invariant of Safety.lean holds at power-up. -/
def Obligations.PowerUpMeetsTheInvariant : Prop := CoreInvariant State.reset

/-- R340: the platform's `Reset` writes every field of R51 but the buffers, and keeps `faults`,
`out` and the buffers.  Nothing is said of the four fields the model adds (`inputs`, `dat3`, `draws`,
`portData`; log 1, 3, 5, 6). -/
def Obligations.PlatformResetWritesEveryField : Prop :=
  ∀ s : State, ∃ (i : List Event) (d : Bool) (n : Nat) (w : Word32),
    step (withEvent .reset s) = .next
    { cardState := .idle, rca := 0#16, appCmd := false, blkCountPending := 0#32,
      xferBounded := false, rdPhase := .rIdle, rdRegPayload := [], wrPhase := .wIdle,
      wrFirst := false, wrStopping := false, busWidth := .one, hsActive := false,
      stOutOfRange := false, stComCrcError := false, stIllegalCommand := false,
      blockReadAct := false, blockReadAddr := 0#32, blockReadNum := 0#32, blockReadStop := false,
      blockWriteAct := false, blockWriteAddr := 0#32, blockWriteNum := 0#32, preeraseNum := 0#23,
      eraseStart := 0#32, eraseEnd := 0#32, infoCardDesel := false, errCmdCrc := false,
      errUnhandledCmd := false, errOpOutRange := false, errHostIsSpi := false, mem := s.mem,
      faults := s.faults, out := s.out, inputs := i, dat3 := d, draws := n, portData := w }

/-! ## Frames, decoding and encoding -/

/-- R91: the six fields of any frame are its bits in order, the encoder lays a frame out as the rule
says, and the index and the argument are recovered from it, bit for bit. -/
def Obligations.EncodedFieldsAreRecovered : Prop :=
  (∀ f : Frame, f = frameStart f ++ frameTrans f ++ frameIndex f ++ frameArgument f ++ frameCrc f
    ++ frameEnd f) ∧
  ∀ (index : BitVec 6) (arg : BitVec 32),
    encodeFrame index arg = 0b01#2 ++ index ++ arg
      ++ crc7 (bitsMsb (0b01#2 ++ index ++ arg : BitVec 40)) ++ 1#1 ∧
    frameIndex (encodeFrame index arg) = index ∧ frameArgument (encodeFrame index arg) = arg

/-- R94: flipping one bit of a valid host command frame makes it no command frame (bits 47 and 46)
or a frame that fails the CRC test (every other bit). -/
def Obligations.SingleBitErrorsAreDetected : Prop :=
  ∀ f : Frame, surfaced f = true → crcValid f = true → ∀ p < 48,
    (46 ≤ p → surfaced (f ^^^ (1#48 <<< p)) = false) ∧
    (p < 46 → surfaced (f ^^^ (1#48 <<< p)) = true ∧ crcValid (f ^^^ (1#48 <<< p)) = false)

/-- R130: exactly these pairs (index, `app_cmd`) are unknown, whatever the argument. -/
def Obligations.UnknownPairsAreTheReservedOnes : Prop :=
  ∀ (index : BitVec 6) (arg : BitVec 32),
    (resolve index false arg = none ↔ index.toNat ∈
      [1, 4, 5, 11, 14, 15, 19, 20, 21, 22, 26, 27, 28, 29, 30, 31, 34, 35, 36, 37, 39, 40, 41, 42,
        43, 44, 45, 46, 47, 48, 49, 50, 51, 52, 53, 54, 56, 57, 58, 59, 60, 61, 62, 63]) ∧
    (resolve index true arg = none ↔ index.toNat ∈
      [13, 18, 22, 25, 26, 38, 42, 43, 44, 45, 46, 47, 48, 49,
        1, 4, 5, 11, 14, 15, 19, 20, 21, 27, 28, 29, 30, 31, 34, 35, 36, 37, 39, 40,
        50, 52, 53, 54, 56, 57, 58, 59, 60, 61, 62, 63])

/-- Decode and encode agree: the frame of a command decodes to that command, under the `app_cmd`
flag it belongs to (R91, R129). -/
def Obligations.DecodeOfEncodeIsTheCommand : Prop :=
  ∀ i : Instr, decode i.isApp (encode i) = .command i

/-- R129, last case before UNKNOWN: after CMD55 a standard command whose index is neither an
application index nor a reserved one runs as the standard command. -/
def Obligations.StandardCommandSurvivesThePrefix : Prop :=
  ∀ i : Instr, i.isApp = false →
    i.index.toNat ∉ [6, 23, 41, 51] → i.index.toNat ∉ [13, 22, 42, 18, 25, 26, 38] →
    decode true (encode i) = .command i

/-- Encode and decode agree: a frame that decodes to a command is the frame of that command, so no
bit of a frame is dropped (R90, R91, R131). -/
def Obligations.EncodeOfDecodeIsTheFrame : Prop :=
  ∀ (app : Bool) (f : Frame) (i : Instr), decode app f = .command i → encode i = f

/-- Frames written out from 95_test_vectors.md section 2.1 decode to the commands they stand for. -/
def Obligations.WrittenFramesDecode : Prop :=
  decode false 0x400000000095#48 = .command (.goIdleState 0#32) ∧
  decode false 0x48000001AA87#48 = .command (.sendIfCond 0#20 0b0001#4 0xAA#8) ∧
  decode false 0x471234000059#48 = .command (.selectDeselectCard 0x1234#16 0#16) ∧
  decode false 0x4680FFFFF129#48 = .command (.switchFunc 1#1 0x0FFFFF#27 1#4) ∧
  decode false 0x5100000064B1#48 = .command (.readSingleBlock 100#32) ∧
  decode false 0x57000000020B#48 = .command (.setBlockCount 2#32) ∧
  decode true 0x57000000101D#48 = .command (.setWrBlkEraseCount 0#9 0x10#23) ∧
  decode true 0x4600000002CB#48 = .command (.setBusWidth 0#30 0b10#2) ∧
  decode true 0x6940FF800017#48 = .command (.sdSendOpCond 0#1 1#1 0#6 0xFF8000#24) ∧
  decode true 0x7300000000C7#48 = .command (.sendScr 0#32) ∧
  decode false 0x4D12340000D6#48 = .crcFailure ∧ decode false 0x4D1234000029#48 = .crcFailure ∧
  decode false 0x0D12340000D7#48 = .notSurfaced ∧ decode false 0xCD12340000D7#48 = .notSurfaced ∧
  decode false 0x45000000005B#48 = .unknown ∧ decode false 0x7300000000C7#48 = .unknown

/-! ## What a step does with a frame -/

/-- A step whose next event is a frame that decodes to a command runs that command, with the DAT3
level of the event.  The DAT3 level held in the state is the model's choice (log 3). -/
def Obligations.StepRunsTheDecodedCommand : Prop :=
  ∀ (s : State) (f : Frame) (d : Bool) (i : Instr),
    decode s.appCmd f = .command i → i.wellFormed = true →
    step (withEvent (.hostCommand f d) s) = exec i { s with dat3 := d }

/-- R140: a frame with start bit 1 or transmission bit 0 changes nothing. -/
def Obligations.UnsurfacedFrameHasNoEffect : Prop :=
  ∀ (s : State) (f : Frame) (d : Bool), frameStart f ≠ 0#1 ∨ frameTrans f ≠ 1#1 →
    step (withEvent (.hostCommand f d) s) = .next s

/-- R145: a surfaced frame whose CRC7 or end bit is wrong sets the two error bits, clears `app_cmd`
and changes nothing else. -/
def Obligations.BadCrcIsRejected : Prop :=
  ∀ (s : State) (f : Frame) (d : Bool), frameStart f = 0#1 → frameTrans f = 1#1 →
    (frameCrc f ≠ crc7 (bitsMsb (frameHead f)) ∨ frameEnd f ≠ 1#1) →
    step (withEvent (.hostCommand f d) s) = .next
      { s with appCmd := false, errCmdCrc := true, stComCrcError := true }

/-- R147: a good frame that resolves to no command is rejected and changes nothing else. -/
def Obligations.UnknownCommandIsRejected : Prop :=
  ∀ (s : State) (f : Frame) (d : Bool), surfaced f = true → crcValid f = true →
    resolve (frameIndex f) s.appCmd (frameArgument f) = none →
    step (withEvent (.hostCommand f d) s) = .next (rejected s)

/-- R148 with the table of R149: a command received in a state that is not legal for it is
rejected, sets the two error bits, clears `app_cmd` and changes nothing else.  CMD0 is legal in
every state; CMD7 is rejected only with the card's own RCA. -/
def Obligations.IllegalStateIsRejected : Prop :=
  ∀ s : State,
    (s.cardState ≠ .ready → ∀ a, exec (.allSendCid a) s = .next (rejected s)) ∧
    (s.cardState ∉ [.identification, .standby] →
      ∀ a, exec (.sendRelativeAddr a) s = .next (rejected s)) ∧
    (s.cardState ∉ [.standby, .transfer] →
      ∀ a, exec (.selectDeselectCard s.rca a) s = .next (rejected s)) ∧
    (s.cardState ≠ .idle →
      (∀ a b c, exec (.sendIfCond a b c) s = .next (rejected s)) ∧
      (∀ a b c e, exec (.sdSendOpCond a b c e) s = .next (rejected s))) ∧
    (s.cardState ≠ .standby →
      (∀ a b, exec (.sendCsd a b) s = .next (rejected s)) ∧
      (∀ a b, exec (.sendCid a b) s = .next (rejected s))) ∧
    (s.cardState ∉ [.sendData, .receiveData] →
      ∀ a, exec (.stopTransmission a) s = .next (rejected s)) ∧
    (s.cardState ∈ [.idle, .ready, .identification] →
      ∀ a b, exec (.sendStatus a b) s = .next (rejected s)) ∧
    (s.cardState ∉ [.idle, .standby, .transfer] →
      ∀ a b, exec (.appCmd a b) s = .next (rejected s)) ∧
    (s.cardState ≠ .transfer →
      (∀ a b c, exec (.switchFunc a b c) s = .next (rejected s)) ∧
      (∀ a, exec (.setBlocklen a) s = .next (rejected s)) ∧
      (∀ a, exec (.readSingleBlock a) s = .next (rejected s)) ∧
      (∀ a, exec (.readMultipleBlock a) s = .next (rejected s)) ∧
      (∀ a, exec (.setBlockCount a) s = .next (rejected s)) ∧
      (∀ a, exec (.writeBlock a) s = .next (rejected s)) ∧
      (∀ a, exec (.writeMultipleBlock a) s = .next (rejected s)) ∧
      (∀ a, exec (.eraseWrBlkStart a) s = .next (rejected s)) ∧
      (∀ a, exec (.eraseWrBlkEnd a) s = .next (rejected s)) ∧
      (∀ a, exec (.erase a) s = .next (rejected s)) ∧
      (∀ a b, exec (.setBusWidth a b) s = .next (rejected s)) ∧
      (∀ a b, exec (.setWrBlkEraseCount a b) s = .next (rejected s)) ∧
      (∀ a, exec (.sendScr a) s = .next (rejected s)))

/-- R150: CMD9, CMD10, CMD13 and CMD55 with another card's RCA, in a state where they are legal,
clear `app_cmd` and change nothing else. -/
def Obligations.OtherCardsFramesAreIgnored : Prop :=
  ∀ (s : State) (rca : Rca) (stuff : BitVec 16), rca ≠ s.rca →
    (s.cardState = .standby → exec (.sendCsd rca stuff) s = .next { s with appCmd := false }) ∧
    (s.cardState = .standby → exec (.sendCid rca stuff) s = .next { s with appCmd := false }) ∧
    (s.cardState ∉ [.idle, .ready, .identification] →
      exec (.sendStatus rca stuff) s = .next { s with appCmd := false }) ∧
    (s.cardState ∈ [.idle, .standby, .transfer] →
      exec (.appCmd rca stuff) s = .next { s with appCmd := false })

/-! ## Responses and the card status -/

/-- R101, R103 to R107: the bits of every response format. -/
def Obligations.ResponseLayouts : Prop :=
  (∀ (index : BitVec 6) (st : BitVec 32), ∃ f : Frame,
    r1 index st = .short48 f false ∧ r1b index st = .short48 f true ∧
    frameStart f = 0#1 ∧ frameTrans f = 0#1 ∧ frameIndex f = index ∧ frameArgument f = st ∧
    frameCrc f = crc7 (bitsMsb (frameHead f)) ∧ frameEnd f = 1#1) ∧
  (∀ reg : BitVec 128, ∃ g : BitVec 136, r2 reg = .long136 g ∧
    g.extractLsb' 134 2 = 0#2 ∧ g.extractLsb' 128 6 = 0b111111#6 ∧
    g.extractLsb' 1 127 = reg.extractLsb' 1 127 ∧ g.extractLsb' 0 1 = 1#1) ∧
  (∀ ocr : BitVec 32, ∃ f : Frame, r3 ocr = .short48 f false ∧
    frameStart f = 0#1 ∧ frameTrans f = 0#1 ∧ frameIndex f = 0b111111#6 ∧ frameArgument f = ocr ∧
    frameCrc f = 0b1111111#7 ∧ frameEnd f = 1#1) ∧
  (∀ (rca : Rca) (st : BitVec 16), ∃ f : Frame, r6 rca st = .short48 f false ∧
    frameStart f = 0#1 ∧ frameTrans f = 0#1 ∧ frameIndex f = 3#6 ∧
    f.extractLsb' 24 16 = rca ∧ f.extractLsb' 8 16 = st ∧
    frameCrc f = crc7 (bitsMsb (frameHead f)) ∧ frameEnd f = 1#1) ∧
  (∀ (vhs : BitVec 4) (pattern : BitVec 8), ∃ f : Frame, r7 vhs pattern = .short48 f false ∧
    frameStart f = 0#1 ∧ frameTrans f = 0#1 ∧ frameIndex f = 8#6 ∧
    f.extractLsb' 20 20 = 0#20 ∧ f.extractLsb' 16 4 = vhs ∧ f.extractLsb' 8 8 = pattern ∧
    frameCrc f = crc7 (bitsMsb (frameHead f)) ∧ frameEnd f = 1#1)

/-- R116, R117, R118: the CRC16 register, shift by shift, and the CRC list of a data block with the
bits of every DAT line written out, for both bus widths. -/
def Obligations.DataBlockCrcIsWrittenOut : Prop :=
  crc16 [] = 0#16 ∧
  (∀ (bits : List Bool) (b : Bool), crc16 (bits ++ [b]) =
    if (crc16 bits).getLsbD 15 = b then crc16 bits <<< 1
    else (crc16 bits <<< 1) ^^^ 0x1021#16) ∧
  ∀ bytes : List Byte,
    dataCrc bytes .one = [crc16 (bytes.flatMap fun b =>
      [b.getLsbD 7, b.getLsbD 6, b.getLsbD 5, b.getLsbD 4,
        b.getLsbD 3, b.getLsbD 2, b.getLsbD 1, b.getLsbD 0])] ∧
    dataCrc bytes .four =
      [crc16 (bytes.flatMap fun b => [b.getLsbD 4, b.getLsbD 0]),
        crc16 (bytes.flatMap fun b => [b.getLsbD 5, b.getLsbD 1]),
        crc16 (bytes.flatMap fun b => [b.getLsbD 6, b.getLsbD 2]),
        crc16 (bytes.flatMap fun b => [b.getLsbD 7, b.getLsbD 3])]

/-- R111, R113: every bit of the card status, those R110 does not maintain included, and every bit of
its R6 packing. -/
def Obligations.StatusBits : Prop :=
  (∀ (p : State) (oor app : Bool) (k : Nat), (cardStatus p oor app).getLsbD k =
    if k = 31 then p.stOutOfRange || oor
    else if k = 23 then p.stComCrcError
    else if k = 22 then p.stIllegalCommand
    else if 9 ≤ k ∧ k ≤ 12 then p.cardState.code.getLsbD (k - 9)
    else if k = 8 then !p.blockWriteAct
    else if k = 5 then app
    else false) ∧
  ∀ (st : BitVec 32) (k : Nat), (r6Status st).getLsbD k =
    if k = 15 then st.getLsbD 23
    else if k = 14 then st.getLsbD 22
    else if k = 13 then st.getLsbD 19
    else if k < 13 then st.getLsbD k
    else false

/-! ## Identification, addressing and selection: result and frame of each command -/

/-- R170, R171, R176: CMD0, in every state.  Of the bookkeeping of R143 and R146 it clears `app_cmd`
too.  The DAT3 level it reads is the one the state holds, which is the model's choice (log 3). -/
def Obligations.GoIdleStateResets : Prop :=
  ∀ (s : State) (stuff : BitVec 32), exec (.goIdleState stuff) s = .next
    { aborted (accepted s) with
      stOutOfRange := false
      errHostIsSpi := s.errHostIsSpi || !s.dat3 }

/-- R178: CMD8 in Idle echoes the pattern for VHS 0b0001 and is silent for any other. -/
def Obligations.SendIfCondEchoes : Prop :=
  ∀ (s : State) (stuff : BitVec 20) (vhs : BitVec 4) (pattern : BitVec 8), s.cardState = .idle →
    exec (.sendIfCond stuff vhs pattern) s = .next
      (if vhs = 0b0001#4 then answered (r7 0b0001#4 pattern) s else accepted s)

/-- R180: CMD55 to this card sets `app_cmd` and answers R1 with APP_CMD. -/
def Obligations.AppCmdSetsThePrefix : Prop :=
  ∀ (s : State) (stuff : BitVec 16), s.cardState ∈ [.idle, .standby, .transfer] →
    exec (.appCmd s.rca stuff) s = .next
      { answeredR1 (r1 55#6 (cardStatus s false true)) s with appCmd := true }

/-- R183: ACMD41 in Idle answers R3; a non-zero window moves the card to Ready, whatever HCS. -/
def Obligations.SendOpCondMakesReady : Prop :=
  ∀ (s : State) (a hcs : BitVec 1) (b : BitVec 6) (window : BitVec 24), s.cardState = .idle →
    exec (.sdSendOpCond a hcs b window) s = .next
      { answered (r3 Config.ocrValue) s with
        cardState := if window = 0#24 then .idle else .ready }

/-- R186, R190, R191, R193, R194: CMD2 in Ready; CMD3 in Identification and in Standby, whose R6 does
not clear `st_out_of_range`; CMD9 and CMD10 to this card in Standby. -/
def Obligations.IdentificationCommandsAnswer : Prop :=
  ∀ s : State,
    (s.cardState = .ready → ∀ stuff : BitVec 32, exec (.allSendCid stuff) s = .next
      { answered (r2 Config.cidValue) s with cardState := .identification }) ∧
    (s.cardState ∈ [.identification, .standby] → ∀ stuff : BitVec 32,
      exec (.sendRelativeAddr stuff) s = .next
        { answered (r6 Config.rcaValue (r6Status (cardStatus s false false))) s with
          rca := Config.rcaValue, cardState := .standby }) ∧
    (s.cardState = .standby → ∀ stuff : BitVec 16,
      exec (.sendCsd s.rca stuff) s = .next (answered (r2 Config.csdValue) s) ∧
      exec (.sendCid s.rca stuff) s = .next (answered (r2 Config.cidValue) s))

/-- R196: CMD13 to this card reports the status and disturbs no data phase; what it clears is the
bookkeeping of R143 and R146: `app_cmd`, the pending count and the reported status bits. -/
def Obligations.SendStatusReports : Prop :=
  ∀ (s : State) (stuff : BitVec 16),
    s.cardState ∈ [.standby, .transfer, .sendData, .receiveData, .programming, .disconnect] →
    exec (.sendStatus s.rca stuff) s = .next
      (answeredR1 (r1 13#6 (cardStatus s false false)) s)

/-- R198: CMD7 with the own RCA in Standby or Transfer. -/
def Obligations.SelectMovesToTransfer : Prop :=
  ∀ (s : State) (stuff : BitVec 16), s.cardState ∈ [.standby, .transfer] →
    exec (.selectDeselectCard s.rca stuff) s = .next
      { answeredR1 (r1b 7#6 (cardStatus s false false)) s with
        cardState := .transfer, infoCardDesel := false }

/-- R200, R346: CMD7 with another RCA is a deselect in every state and aborts any transfer. -/
def Obligations.DeselectAbortsToIdle : Prop :=
  ∀ (s : State) (rca : Rca) (stuff : BitVec 16), rca ≠ s.rca →
    exec (.selectDeselectCard rca stuff) s = .next
      { aborted (accepted s) with infoCardDesel := true }

/-! ## Transfer-state configuration -/

/-- R210, R224: CMD6 and ACMD51 in Transfer offer a register block, the SCR most significant byte
first. -/
def Obligations.RegisterBlocksAreOffered : Prop :=
  ∀ s : State, s.cardState = .transfer →
    (∀ (mode : BitVec 1) (groups : BitVec 27) (fg1 : BitVec 4),
      exec (.switchFunc mode groups fg1) s = .next
        { answeredR1 (r1 6#6 (cardStatus s false false)) s with
          hsActive := s.hsActive || (mode = 1#1 && fg1 = 1#4 && Config.enableHs)
          rdRegPayload := (Config.switchStatus (mode ++ groups ++ fg1) Config.enableHs).toList
          rdPhase := .sendingReg
          cardState := .sendData }) ∧
    ∀ stuff : BitVec 32, exec (.sendScr stuff) s = .next
      { answeredR1 (r1 51#6 (cardStatus s false true)) s with
        rdRegPayload :=
          [Config.scrValue.extractLsb' 56 8, Config.scrValue.extractLsb' 48 8,
            Config.scrValue.extractLsb' 40 8, Config.scrValue.extractLsb' 32 8,
            Config.scrValue.extractLsb' 24 8, Config.scrValue.extractLsb' 16 8,
            Config.scrValue.extractLsb' 8 8, Config.scrValue.extractLsb' 0 8]
        rdPhase := .sendingReg
        cardState := .sendData }

/-- R212, R232: CMD16 and CMD38 in Transfer answer and change nothing else, whatever their argument;
CMD38's passage through Programming is internal to its event. -/
def Obligations.BlocklenAndEraseOnlyAnswer : Prop :=
  ∀ (s : State) (arg : BitVec 32), s.cardState = .transfer →
    exec (.setBlocklen arg) s = .next (answeredR1 (r1 16#6 (cardStatus s false false)) s) ∧
    exec (.erase arg) s = .next (answeredR1 (r1b 38#6 (cardStatus s false false)) s)

/-- R214, R222: CMD23 in Transfer leaves its count pending, ACMD23 stores the pre-erase count. -/
def Obligations.CountsAreStored : Prop :=
  ∀ s : State, s.cardState = .transfer →
    (∀ count : BitVec 32, exec (.setBlockCount count) s = .next
      { answeredR1 (r1 23#6 (cardStatus s false false)) s with blkCountPending := count }) ∧
    ∀ (stuff : BitVec 9) (count : BitVec 23), exec (.setWrBlkEraseCount stuff count) s = .next
      { answeredR1 (r1 23#6 (cardStatus s false true)) s with preeraseNum := count }

/-- R218: ACMD6 in Transfer; the reserved codes change no width. -/
def Obligations.SetBusWidthSelectsTheLines : Prop :=
  ∀ (s : State) (stuff : BitVec 30), s.cardState = .transfer →
    exec (.setBusWidth stuff 0b00#2) s = .next
      { answeredR1 (r1 6#6 (cardStatus s false true)) s with busWidth := .one } ∧
    exec (.setBusWidth stuff 0b10#2) s = .next
      { answeredR1 (r1 6#6 (cardStatus s false true)) s with busWidth := .four } ∧
    exec (.setBusWidth stuff 0b01#2) s = .next (answeredR1 (r1 6#6 (cardStatus s false true)) s) ∧
    exec (.setBusWidth stuff 0b11#2) s = .next (answeredR1 (r1 6#6 (cardStatus s false true)) s)

/-- R228, R230: CMD32 and CMD33 in Transfer store an address of the card and report any other. -/
def Obligations.EraseRangeIsPublished : Prop :=
  ∀ (s : State) (a : BitVec 32), s.cardState = .transfer →
    exec (.eraseWrBlkStart a) s = .next
      (if a.toNat < Config.capacityBlocks then
        { answeredR1 (r1 32#6 (cardStatus s false false)) s with eraseStart := a }
      else { answeredR1 (r1 32#6 (cardStatus s true false)) s with errOpOutRange := true }) ∧
    exec (.eraseWrBlkEnd a) s = .next
      (if a.toNat < Config.capacityBlocks then
        { answeredR1 (r1 33#6 (cardStatus s false false)) s with eraseEnd := a }
      else { answeredR1 (r1 33#6 (cardStatus s true false)) s with errOpOutRange := true })

/-! ## Block I/O -/

/-- R250, R252: CMD17 and CMD18 in Transfer. -/
def Obligations.ReadCommandsPublishARequest : Prop :=
  ∀ (s : State) (a : BitVec 32), s.cardState = .transfer →
    exec (.readSingleBlock a) s = .next
      (if a.toNat < Config.capacityBlocks then
        { answeredR1 (r1 17#6 (cardStatus s false false)) s with
          xferBounded := true, blockReadNum := 1#32, blockReadAddr := a, blockReadStop := false,
          blockReadAct := true, rdPhase := .waitGo, cardState := .sendData }
      else { answeredR1 (r1 17#6 (cardStatus s true false)) s with errOpOutRange := true }) ∧
    exec (.readMultipleBlock a) s = .next
      (if a.toNat < Config.capacityBlocks then
        { answeredR1 (r1 18#6 (cardStatus s false false)) s with
          xferBounded := decide (s.blkCountPending ≠ 0#32), blockReadNum := s.blkCountPending,
          blockReadAddr := a, blockReadStop := false, blockReadAct := true, rdPhase := .waitGo,
          cardState := .sendData }
      else { answeredR1 (r1 18#6 (cardStatus s true false)) s with errOpOutRange := true })

/-- R250, R254: CMD24 and CMD25 in Transfer. -/
def Obligations.WriteCommandsWaitForData : Prop :=
  ∀ (s : State) (a : BitVec 32), s.cardState = .transfer →
    exec (.writeBlock a) s = .next
      (if a.toNat < Config.capacityBlocks then
        { answeredR1 (r1 24#6 (cardStatus s false false)) s with
          xferBounded := true, blockWriteNum := 1#32, blockWriteAddr := a, wrFirst := true,
          wrStopping := false, blockWriteAct := false, wrPhase := .waitData,
          cardState := .receiveData }
      else { answeredR1 (r1 24#6 (cardStatus s true false)) s with errOpOutRange := true }) ∧
    exec (.writeMultipleBlock a) s = .next
      (if a.toNat < Config.capacityBlocks then
        { answeredR1 (r1 25#6 (cardStatus s false false)) s with
          xferBounded := decide (s.blkCountPending ≠ 0#32), blockWriteNum := s.blkCountPending,
          blockWriteAddr := a, wrFirst := true, wrStopping := false, blockWriteAct := false,
          wrPhase := .waitData, cardState := .receiveData }
      else { answeredR1 (r1 25#6 (cardStatus s true false)) s with errOpOutRange := true })

/-- R260: CMD12 in SendData, and in ReceiveData with and without a landed block. -/
def Obligations.StopTransmissionEndsTheTransfer : Prop :=
  ∀ (s : State) (stuff : BitVec 32),
    (s.cardState = .sendData → exec (.stopTransmission stuff) s = .next
      { answeredR1 (r1b 12#6 (cardStatus s false false)) s with
        blockReadStop := s.blockReadStop || s.rdPhase ≠ .sendingReg
        blockReadAct := false, rdPhase := .rIdle, rdRegPayload := [], cardState := .transfer }) ∧
    (s.cardState = .receiveData → s.wrPhase = .waitDone → exec (.stopTransmission stuff) s = .next
      { answeredR1 (r1b 12#6 (cardStatus s false false)) s with
        wrStopping := true, cardState := .programming }) ∧
    (s.cardState = .receiveData → s.wrPhase ≠ .waitDone → exec (.stopTransmission stuff) s = .next
      { answeredR1 (r1b 12#6 (cardStatus s false false)) s with
        wrPhase := .wIdle, wrFirst := false, cardState := .transfer })

/-- R264: `ConsumerGo` in every state. -/
def Obligations.GoReleasesOneBlock : Prop :=
  ∀ s : State, step (withEvent .consumerGo s) = .next
    (if s.rdPhase = .waitGo then
      { s with
        blockReadAct := false
        blockReadNum := if s.xferBounded then s.blockReadNum - 1#32 else s.blockReadNum
        rdPhase := .sending }
    else s)

/-- R266, R268: `HostDataOut` of a released block whose 128 words `ws` are all written. -/
def Obligations.ReleasedBlockIsSentAsStaged : Prop :=
  ∀ (s : State) (ws : List Word32), s.rdPhase = .sending → ws.length = 128 →
    (∀ i, (h : i < ws.length) → readWord s.mem .rb i = some ws[i]) →
    ∃ t, step (withEvent .hostDataOut s) = .next t ∧
      t.out = s.out ++
        [.data (ws.flatMap wordBytes) (dataCrc (ws.flatMap wordBytes) s.busWidth), .dataOutDone] ∧
      { t with out := s.out } =
        if s.xferBounded = true ∧ s.blockReadNum = 0#32 then
          { s with rdPhase := .rIdle, cardState := .transfer }
        else if s.blockReadAddr.toNat + 1 < Config.capacityBlocks then
          { s with blockReadAddr := s.blockReadAddr + 1#32, blockReadAct := true,
                   rdPhase := .waitGo }
        else
          { s with errOpOutRange := true, stOutOfRange := true, rdPhase := .rHalted }

/-- R81, R266, R268: a released block is always sent with 512 bytes, written or drawn, and the read
then ends, advances or halts; only the draw counter is left open. -/
def Obligations.ReleasedBlockHasAllItsBytes : Prop :=
  ∀ s : State, s.rdPhase = .sending →
    ∃ (t : State) (bytes : List Byte), step (withEvent .hostDataOut s) = .next t ∧
      bytes.length = 512 ∧
      t.out = s.out ++ [.data bytes (dataCrc bytes s.busWidth), .dataOutDone] ∧
      (∀ i < 128, ∀ w, readWord s.mem .rb i = some w →
        (bytes.drop (4 * i)).take 4 = wordBytes w) ∧
      { t with out := s.out, draws := s.draws } =
        if s.xferBounded = true ∧ s.blockReadNum = 0#32 then
          { s with rdPhase := .rIdle, cardState := .transfer }
        else if s.blockReadAddr.toNat + 1 < Config.capacityBlocks then
          { s with blockReadAddr := s.blockReadAddr + 1#32, blockReadAct := true,
                   rdPhase := .waitGo }
        else
          { s with errOpOutRange := true, stOutOfRange := true, rdPhase := .rHalted }

/-- R269: `HostDataOut` of a register block. -/
def Obligations.RegisterBlockIsSent : Prop :=
  ∀ s : State, s.rdPhase = .sendingReg → step (withEvent .hostDataOut s) = .next
    { s with
      out := s.out ++ [.data s.rdRegPayload (dataCrc s.rdRegPayload s.busWidth), .dataOutDone]
      rdRegPayload := [], rdPhase := .rIdle, cardState := .transfer }

/-- R276: `HostDataIn` where no block is expected, with a bad block and with a good one.  Of the
write buffer nothing is said after a bad block: its words are not promised. -/
def Obligations.HostBlockIsJudged : Prop :=
  ∀ (s : State) (bytes : List Byte) (crcs : List (BitVec 16)),
    (s.wrPhase ≠ .waitData → step (withEvent (.hostDataIn bytes crcs) s) = .next s) ∧
    (s.wrPhase = .waitData → ¬(bytes.length = 512 ∧ crcs = dataCrc bytes s.busWidth) →
      ∃ m, step (withEvent (.hostDataIn bytes crcs) s) = .next
          { s with mem := m, out := s.out ++ [.token 0b101#3] } ∧
        ∀ x, x < bufBase .wb ∨ bufBase .wb + 512 ≤ x → readByte m x = readByte s.mem x) ∧
    (s.wrPhase = .waitData → bytes.length = 512 → crcs = dataCrc bytes s.busWidth →
      ∃ m, step (withEvent (.hostDataIn bytes crcs) s) = .next
          { s with
            mem := m, out := s.out ++ [.token 0b010#3]
            blockWriteAddr := if s.wrFirst then s.blockWriteAddr else s.blockWriteAddr + 1#32
            wrFirst := false, blockWriteAct := true, wrPhase := .waitDone
            cardState := if s.xferBounded = true ∧ s.blockWriteNum = 1#32 then .programming
              else s.cardState } ∧
        (∀ i < 128, readWord m .wb i = some (bytes.getD (4 * i) 0#8 ++ bytes.getD (4 * i + 1) 0#8
          ++ bytes.getD (4 * i + 2) 0#8 ++ bytes.getD (4 * i + 3) 0#8)) ∧
        ∀ x, x < bufBase .wb ∨ bufBase .wb + 512 ≤ x → readByte m x = readByte s.mem x)

/-- R280, R281: `ConsumerDone` in every state. -/
def Obligations.DoneServicesOneBlock : Prop :=
  ∀ s : State, step (withEvent .consumerDone s) = .next
    (if s.wrPhase = .waitDone then
      let num := if s.xferBounded then s.blockWriteNum - 1#32 else s.blockWriteNum
      if (s.xferBounded = true ∧ num = 0#32) ∨ s.wrStopping = true then
        { s with blockWriteAct := false, blockWriteNum := num, wrPhase := .wIdle,
                 wrStopping := false, wrFirst := false, cardState := .transfer }
      else if s.blockWriteAddr.toNat + 1 < Config.capacityBlocks then
        { s with blockWriteAct := false, blockWriteNum := num, wrPhase := .waitData }
      else
        { s with blockWriteAct := false, blockWriteNum := num, errOpOutRange := true,
                 stOutOfRange := true, wrPhase := .wHalted }
    else s)

/-- R286, R288: with both sequencers idle no strobe and no data event has an effect.  R268, R270, R288:
where no block is on offer (no read, a request not yet released, a halted read) the host's read has
none, whatever the write sequencer does. -/
def Obligations.IdleSequencerIgnoresDataEvents : Prop :=
  (∀ s : State, s.rdPhase = .rIdle → s.wrPhase = .wIdle →
    step (withEvent .consumerGo s) = .next s ∧ step (withEvent .consumerDone s) = .next s ∧
    step (withEvent .hostDataOut s) = .next s ∧
    ∀ bytes crcs, step (withEvent (.hostDataIn bytes crcs) s) = .next s) ∧
  ∀ s : State, s.rdPhase ≠ .sending → s.rdPhase ≠ .sendingReg →
    step (withEvent .hostDataOut s) = .next s

/-- R290: a bounded read of n blocks inside the card takes exactly n go strobes, each followed by
the host's read of its block; the card is in SendData until the last block is out, and a further go
is a no-op. -/
def Obligations.BoundedReadTakesExactlyItsGoStrobes : Prop :=
  ∀ (s : State) (n : Nat), 0 < n → s.cardState = .sendData → s.rdPhase = .waitGo →
    s.xferBounded = true → s.blockReadNum.toNat = n →
    s.blockReadAddr.toNat + n ≤ Config.capacityBlocks →
    s.inputs = (List.replicate n [Event.consumerGo, Event.hostDataOut]).flatten →
    (∀ k < 2 * n, ∃ u, core.run k s = .next u ∧ u.cardState = .sendData) ∧
    ∃ t, core.run (2 * n) s = .next t ∧ t.cardState = .transfer ∧ t.rdPhase = .rIdle ∧
      t.blockReadNum = 0#32 ∧ t.blockReadAct = false ∧
      t.blockReadAddr.toNat = s.blockReadAddr.toNat + (n - 1) ∧
      step (withEvent .consumerGo t) = .next t

/-- R290, the write path: a bounded write of the given good blocks inside the card takes exactly one
done strobe for each block; the card is not in Transfer before the last done. -/
def Obligations.BoundedWriteTakesExactlyItsDoneStrobes : Prop :=
  ∀ (s : State) (blocks : List (List Byte)), blocks ≠ [] → (∀ b ∈ blocks, b.length = 512) →
    s.cardState = .receiveData → s.wrPhase = .waitData → s.wrFirst = true →
    s.wrStopping = false → s.xferBounded = true → s.blockWriteNum.toNat = blocks.length →
    s.blockWriteAddr.toNat + blocks.length ≤ Config.capacityBlocks →
    s.inputs = blocks.flatMap
      (fun b => [Event.hostDataIn b (dataCrc b s.busWidth), Event.consumerDone]) →
    (∀ k < 2 * blocks.length, ∃ u, core.run k s = .next u ∧ u.cardState ≠ .transfer) ∧
    ∃ t, core.run (2 * blocks.length) s = .next t ∧ t.cardState = .transfer ∧
      t.wrPhase = .wIdle ∧ t.blockWriteNum = 0#32 ∧ t.blockWriteAct = false ∧
      t.blockWriteAddr.toNat = s.blockWriteAddr.toNat + (blocks.length - 1) ∧
      step (withEvent .consumerDone t) = .next t

/-! ## The consumer port -/

/-- R79, R84: a consumer read returns the word, or a draw where the word is unwritten (R81) or the
host may be streaming into the write buffer.  A status read returns the output (R30 to R42, R308) of
the state it meets: the code of R20, a flag, an address or a count.  Neither changes anything else.
Where the value is held and its width are the model's choice (log 6), and so is the draw's form
(log 5). -/
def Obligations.ConsumerReadsReturnTheirValue : Prop :=
  ∀ (s : State),
    (∀ a : BitVec 8, (a.getLsbD 7 = true ∧ s.wrPhase = .waitData) ∨
      readWord s.mem (if a.getLsbD 7 then .wb else .rb) (a.extractLsb' 0 7).toNat = none →
      step (withEvent (.consumerBufRead a) s) = .next
        { s with portData := Config.freeWord s.draws, draws := s.draws + 1 }) ∧
    (∀ (a : BitVec 8) (w : Word32), ¬(a.getLsbD 7 = true ∧ s.wrPhase = .waitData) →
      readWord s.mem (if a.getLsbD 7 then .wb else .rb) (a.extractLsb' 0 7).toNat = some w →
      step (withEvent (.consumerBufRead a) s) = .next { s with portData := w }) ∧
    (∀ p ∈ [(CardState.idle, 0#32), (.ready, 1#32), (.identification, 2#32), (.standby, 3#32),
        (.transfer, 4#32), (.sendData, 5#32), (.receiveData, 6#32), (.programming, 7#32),
        (.disconnect, 8#32)],
      s.cardState = p.1 → statusReads s .cardState p.2) ∧
    statusReads s .blockReadAct (flagWord s.blockReadAct) ∧
    statusReads s .blockReadAddr s.blockReadAddr ∧
    statusReads s .blockReadNum s.blockReadNum ∧
    statusReads s .blockReadStop (flagWord s.blockReadStop) ∧
    statusReads s .blockWriteAct (flagWord s.blockWriteAct) ∧
    statusReads s .blockWriteAddr s.blockWriteAddr ∧
    statusReads s .blockWriteNum s.blockWriteNum ∧
    statusReads s .preeraseNum (0#9 ++ s.preeraseNum) ∧
    statusReads s .eraseStart s.eraseStart ∧
    statusReads s .eraseEnd s.eraseEnd ∧
    statusReads s .infoCardDesel (flagWord s.infoCardDesel) ∧
    statusReads s .errCmdCrc (flagWord s.errCmdCrc) ∧
    statusReads s .errUnhandledCmd (flagWord s.errUnhandledCmd) ∧
    statusReads s .errOpOutRange (flagWord s.errOpOutRange) ∧
    statusReads s .errHostIsSpi (flagWord s.errHostIsSpi) ∧
    statusReads s .readPending (flagWord s.blockReadAct) ∧
    statusReads s .writePending (flagWord s.blockWriteAct)

/-- R78: a consumer write changes the word it names and no other word of either buffer; byte by
byte, no address outside the four bytes of that word reads otherwise. -/
def Obligations.ConsumerWriteIsIsolated : Prop :=
  ∀ (s t : State) (a : BitVec 8) (v : Word32),
    step (withEvent (.consumerBufWrite a v) s) = .next t →
    (∀ (b : Buf) (i : Nat), i < 128 → readWord t.mem b i =
      if b = (if a.getLsbD 7 then .wb else .rb) ∧ i = (a.extractLsb' 0 7).toNat then some v
      else readWord s.mem b i) ∧
    ∀ x : Nat, x < bufBase (portBuf a) + 4 * portIndex a ∨
      bufBase (portBuf a) + 4 * portIndex a + 4 ≤ x → readByte t.mem x = readByte s.mem x

/-- R80, R316: a consumer write is performed in every state, changes the fault record only by the
race it makes, and changes nothing else but the buffers. -/
def Obligations.ConsumerWriteAlwaysLands : Prop :=
  ∀ (s : State) (a : BitVec 8) (v : Word32),
    step (withEvent (.consumerBufWrite a v) s) = .next
      { s with
        mem := writeWord s.mem (if a.getLsbD 7 then .wb else .rb) (a.extractLsb' 0 7).toNat v
        faults :=
          { rbRace := s.faults.rbRace || (!a.getLsbD 7 && decide (s.rdPhase = .sending))
            wbRace := s.faults.wbRace || (a.getLsbD 7 && decide (s.wrPhase = .waitData)) } }

/-- R87, guarantee 2: after a good block has landed, a consumer read of the write buffer returns the
landed bytes; and while the core does not wait for a block, no event but a consumer write to the
write buffer changes one of its bytes. -/
def Obligations.LandedBlockReadsBack : Prop :=
  (∀ (s t : State) (bytes : List Byte), s.wrPhase = .waitData → bytes.length = 512 →
    step (withEvent (.hostDataIn bytes (dataCrc bytes s.busWidth)) s) = .next t →
    ∀ a : BitVec 8, a.getLsbD 7 = true →
      step (withEvent (.consumerBufRead a) t) = .next
        { t with portData :=
            bytes.getD (4 * (a.extractLsb' 0 7).toNat) 0#8
              ++ bytes.getD (4 * (a.extractLsb' 0 7).toNat + 1) 0#8
              ++ bytes.getD (4 * (a.extractLsb' 0 7).toNat + 2) 0#8
              ++ bytes.getD (4 * (a.extractLsb' 0 7).toNat + 3) 0#8 }) ∧
  ∀ (s t : State) (e : Event), s.wrPhase ≠ .waitData →
    (∀ a v, e = .consumerBufWrite a v → a.getLsbD 7 = false) →
    step (withEvent e s) = .next t →
    ∀ x, bufBase .wb ≤ x → x < bufBase .wb + 512 → readByte t.mem x = readByte s.mem x

/-! ## What every step keeps -/

/-- R300: no state and no event stops the core. -/
def Obligations.NothingStopsTheCore : Prop :=
  ∀ s : State, ∃ t, step s = .next t

/-- The invariant of Safety.lean is kept by every step. -/
def Obligations.StepKeepsTheInvariant : Prop :=
  ∀ s t : State, CoreInvariant s → step s = .next t → CoreInvariant t

/-- A step keeps every word of the buffers whole: written in all its bytes or in none. -/
def Obligations.StepKeepsWordsWhole : Prop :=
  ∀ s t : State, wholeWords s.mem → step s = .next t → wholeWords t.mem

/-- R303: the four error flags are sticky: no event but `Reset` clears one, and `Reset` clears all
four. -/
def Obligations.ErrorFlagsAreSticky : Prop :=
  ∀ (s t : State) (e : Event), step (withEvent e s) = .next t →
    (e ≠ .reset →
      (s.errCmdCrc = true → t.errCmdCrc = true) ∧
      (s.errUnhandledCmd = true → t.errUnhandledCmd = true) ∧
      (s.errOpOutRange = true → t.errOpOutRange = true) ∧
      (s.errHostIsSpi = true → t.errHostIsSpi = true)) ∧
    (e = .reset → t.errCmdCrc = false ∧ t.errUnhandledCmd = false ∧ t.errOpOutRange = false ∧
      t.errHostIsSpi = false)

/-- R304: `info_card_desel` is set by a deselect, cleared by a select or by `Reset`, and left
unchanged by every other event, a CMD0 among them. -/
def Obligations.DeselectFlagFollowsSelection : Prop :=
  ∀ (s t : State) (e : Event), step (withEvent e s) = .next t →
    (e = .reset → t.infoCardDesel = false) ∧
    (∀ f d rca stuff, e = .hostCommand f d →
      decode s.appCmd f = .command (.selectDeselectCard rca stuff) →
      (rca ≠ s.rca → t.infoCardDesel = true) ∧
      (rca = s.rca → s.cardState ∈ [.standby, .transfer] → t.infoCardDesel = false) ∧
      (rca = s.rca → s.cardState ∉ [.standby, .transfer] → t.infoCardDesel = s.infoCardDesel)) ∧
    (e ≠ .reset → (∀ f d rca stuff, e = .hostCommand f d →
      decode s.appCmd f ≠ .command (.selectDeselectCard rca stuff)) →
      t.infoCardDesel = s.infoCardDesel)

/-- R310: one frame raises at most one of `err_cmd_crc` and `err_unhandled_cmd`, and
`err_host_is_spi` only if it is a CMD0 with DAT3 low. -/
def Obligations.OneFrameRaisesOneError : Prop :=
  ∀ (s t : State) (f : Frame) (d : Bool), step (withEvent (.hostCommand f d) s) = .next t →
    (t.errCmdCrc = s.errCmdCrc ∨ t.errUnhandledCmd = s.errUnhandledCmd) ∧
    (t.errHostIsSpi ≠ s.errHostIsSpi →
      d = false ∧ ∃ stuff, decode s.appCmd f = .command (.goIdleState stuff))

/-- R143: after a surfaced frame `app_cmd` is set only if the frame was an accepted CMD55, and no event
but a surfaced frame and `Reset` changes it. -/
def Obligations.PrefixLastsForOneFrame : Prop :=
  (∀ (s t : State) (f : Frame) (d : Bool), surfaced f = true →
    step (withEvent (.hostCommand f d) s) = .next t → t.appCmd = true →
    ∃ stuff, decode s.appCmd f = .command (.appCmd s.rca stuff) ∧
      s.cardState ∈ [.idle, .standby, .transfer]) ∧
  ∀ (s t : State) (e : Event), e ≠ .reset →
    (∀ f d, e = .hostCommand f d → surfaced f = false) →
    step (withEvent e s) = .next t → t.appCmd = s.appCmd

/-- R87, guarantee 3: no host event and no core reaction writes the read buffer; nothing but a
consumer write to it changes one of its bytes. -/
def Obligations.ReadBufferIsTheConsumers : Prop :=
  ∀ (s t : State) (e : Event), (∀ a v, e = .consumerBufWrite a v → a.getLsbD 7 = true) →
    step (withEvent e s) = .next t → ∀ x < 512, readByte t.mem x = readByte s.mem x

/-- R87, guarantee 3: no core reaction reads the write buffer: two states that differ in it alone
react alike to every event but a consumer read of a buffer. -/
def Obligations.NoReactionReadsTheWriteBuffer : Prop :=
  ∀ (s t : State) (m : Memory) (e : Event),
    (∀ i < 128, readWord m .rb i = readWord s.mem .rb i) →
    (∀ a, e ≠ .consumerBufRead a) → step (withEvent e s) = .next t →
    ∃ n, step (withEvent e { s with mem := m }) = .next { t with mem := n } ∧
      ∀ i < 128, readWord n .rb i = readWord t.mem .rb i

/-- R48, R316: no event removes a model fault, and none is recorded by an event that keeps the first
two consumer duties of R334. -/
def Obligations.FaultsComeOnlyFromRaces : Prop :=
  ∀ (s t : State) (e : Event), step (withEvent e s) = .next t →
    (s.faults.rbRace = true → t.faults.rbRace = true) ∧
    (s.faults.wbRace = true → t.faults.wbRace = true) ∧
    (keepsDuty s e = true → t.faults = s.faults)

/-- R322: a pending request ends only by its strobe, CMD12, CMD0, a deselect or `Reset`. -/
def Obligations.PendingRequestsWaitForService : Prop :=
  ∀ (s t : State) (e : Event), CoreInvariant s → step (withEvent e s) = .next t →
    (s.blockReadAct = true ∧ t.blockReadAct = false →
      e = .consumerGo ∨ e = .reset ∨ ∃ f d i, e = .hostCommand f d ∧
        decode s.appCmd f = .command i ∧
        (i.index = 0#6 ∨ i.index = 12#6 ∨ ∃ rca stuff, i = .selectDeselectCard rca stuff ∧
          rca ≠ s.rca)) ∧
    (s.blockWriteAct = true ∧ t.blockWriteAct = false →
      e = .consumerDone ∨ e = .reset ∨ ∃ f d i, e = .hostCommand f d ∧
        decode s.appCmd f = .command i ∧
        (i.index = 0#6 ∨ ∃ rca stuff, i = .selectDeselectCard rca stuff ∧ rca ≠ s.rca))

/-- R222, R228, R230: `preerase_num` changes only by ACMD23 and `erase_start`, `erase_end` only by
CMD32, CMD33; `Reset` alone writes them otherwise. -/
def Obligations.EraseFieldsHaveTheirOwnWriters : Prop :=
  ∀ (s t : State) (e : Event), step (withEvent e s) = .next t → e ≠ .reset →
    (t.preeraseNum ≠ s.preeraseNum → ∃ f d a n, e = .hostCommand f d ∧
      decode s.appCmd f = .command (.setWrBlkEraseCount a n)) ∧
    (t.eraseStart ≠ s.eraseStart → ∃ f d a, e = .hostCommand f d ∧
      decode s.appCmd f = .command (.eraseWrBlkStart a)) ∧
    (t.eraseEnd ≠ s.eraseEnd → ∃ f d a, e = .hostCommand f d ∧
      decode s.appCmd f = .command (.eraseWrBlkEnd a))
end

