-- ==== Sys2Proof/Laws/Frame.lean ====
section
/-! SUPPORT. The fields of a sealed frame: its first 40 bits, its CRC7 and its end bit. -/

namespace Sys2Proof

theorem frameHead_sealFrame (h : BitVec 40) : frameHead (Machine.sealFrame h) = h := by
  apply BitVec.eq_of_getLsbD_eq
  intro i hi
  simp only [frameHead, Machine.sealFrame, BitVec.getLsbD_extractLsb', BitVec.getLsbD_append]
  simp [hi, show ¬ 8 + i < 1 by omega]

theorem frameCrc_sealFrame (h : BitVec 40) :
    frameCrc (Machine.sealFrame h) = Machine.crc7 (Machine.bitsMsb h) := by
  apply BitVec.eq_of_getLsbD_eq
  intro i hi
  simp only [frameCrc, Machine.sealFrame, BitVec.getLsbD_extractLsb', BitVec.getLsbD_append]
  simp [hi, show ¬ 1 + i < 1 by omega, show 1 + i - 1 = i by omega]

theorem frameEnd_sealFrame (h : BitVec 40) : frameEnd (Machine.sealFrame h) = 1#1 := by
  apply BitVec.eq_of_getLsbD_eq
  intro i hi
  simp only [frameEnd, Machine.sealFrame, BitVec.getLsbD_extractLsb', BitVec.getLsbD_append]
  simp [hi]

/-- A sealed frame passes the CRC and end-bit test (R93). -/
theorem crcValid_sealFrame (h : BitVec 40) : crcValid (Machine.sealFrame h) = true := by
  simp [crcValid, frameHead_sealFrame, frameCrc_sealFrame, frameEnd_sealFrame]

/-- The bits of a frame above its CRC are the bits of its head. -/
theorem getLsbD_sealFrame_head (h : BitVec 40) (k : Nat) (hk : k < 40) :
    (Machine.sealFrame h).getLsbD (8 + k) = h.getLsbD k := by
  have := congrArg (·.getLsbD k) (frameHead_sealFrame h)
  simpa [frameHead, hk] using this

end Sys2Proof
end

