-- ==== Sys2Proof/Laws/Memory.lean ====
section
/-! SUPPORT. The laws of the byte cells: read after write, the canonical form, and what a block
write leaves. -/

namespace Sys2Proof.Machine

/-! ## Canonical form: the cells below and above an address -/

/-- Cells in rising order with no address below `lo`. -/
abbrev risingFrom (lo : Nat) (m : Memory) : Prop :=
  m.Pairwise (fun c d => c.1 < d.1) ∧ ∀ c ∈ m, lo ≤ c.1

/-! ## writeByte -/

theorem readByte_writeByte_same (m : Memory) (a : Nat) (v : Byte) :
    readByte (writeByte m a v) a = some v := by
  induction m with
  | nil => simp [writeByte, readByte]
  | cons c rest ih =>
    obtain ⟨k, w⟩ := c
    simp only [writeByte]
    split
    · simp [readByte]
    · split
      · simp [readByte]
      · simp [readByte, *]

theorem readByte_writeByte_other (m : Memory) (a b : Nat) (v : Byte) (h : b ≠ a) :
    readByte (writeByte m a v) b = readByte m b := by
  induction m with
  | nil => simp [writeByte, readByte, h.symm]
  | cons c rest ih =>
    obtain ⟨k, w⟩ := c
    simp only [writeByte]
    split
    · simp [readByte, h.symm]
    · split
      · simp_all [readByte, h.symm]
      · simp [readByte, ih]

theorem mem_writeByte {m : Memory} {a : Nat} {v : Byte} {c : Host.Cell}
    (h : c ∈ writeByte m a v) : c = (a, v) ∨ c ∈ m := by
  induction m with
  | nil => simpa [writeByte] using h
  | cons d rest ih =>
    obtain ⟨k, w⟩ := d
    simp only [writeByte] at h
    split at h
    · simpa using h
    · split at h
      · rcases List.mem_cons.1 h with h | h <;> simp [h]
      · rcases List.mem_cons.1 h with h | h
        · simp [h]
        · rcases ih h with h | h <;> simp [h]

theorem writeByte_rising {m : Memory} (hm : m.Pairwise (fun c d => c.1 < d.1)) (a : Nat)
    (v : Byte) : (writeByte m a v).Pairwise (fun c d => c.1 < d.1) := by
  induction m with
  | nil => simp [writeByte]
  | cons d rest ih =>
    obtain ⟨k, w⟩ := d
    obtain ⟨hk, hrest⟩ := List.pairwise_cons.1 hm
    simp only [writeByte]
    split
    · rename_i hlt
      refine List.pairwise_cons.2 ⟨fun c hc => ?_, hm⟩
      rcases List.mem_cons.1 hc with rfl | hc
      · exact hlt
      · exact Nat.lt_trans hlt (hk c hc)
    · split
      · rename_i hEq
        exact List.pairwise_cons.2 ⟨fun c hc => hEq ▸ hk c hc, hrest⟩
      · rename_i hlt hne
        refine List.pairwise_cons.2 ⟨fun c hc => ?_, ih hrest⟩
        rcases mem_writeByte hc with rfl | hc
        · simp only; omega
        · exact hk c hc

/-- A byte write inside the buffers keeps the canonical form. -/
theorem writeByte_wf {m : Memory} (hm : m.wf) {a : Nat} (ha : a < 1024) (v : Byte) :
    (writeByte m a v).wf :=
  ⟨writeByte_rising hm.1 a v, fun c hc => by
    rcases mem_writeByte hc with rfl | hc
    · exact ha
    · exact hm.2 c hc⟩

/-! ## writeBytes and writeWord -/

theorem writeBytes_wf (bytes : List Byte) {m : Memory} (hm : m.wf) {a : Nat}
    (ha : a + bytes.length ≤ 1024) : (writeBytes m a bytes).wf := by
  induction bytes generalizing m a with
  | nil => exact hm
  | cons b rest ih =>
    simp only [List.length_cons] at ha
    exact ih (writeByte_wf hm (by omega) b) (by omega)

theorem readByte_writeBytes_outside (bytes : List Byte) (m : Memory) (a x : Nat)
    (h : x < a ∨ a + bytes.length ≤ x) : readByte (writeBytes m a bytes) x = readByte m x := by
  induction bytes generalizing m a with
  | nil => rfl
  | cons b rest ih =>
    simp only [List.length_cons] at h
    rw [writeBytes, ih _ _ (by omega), readByte_writeByte_other _ _ _ _ (by omega)]

theorem readByte_writeBytes_inside (bytes : List Byte) (m : Memory) (a n : Nat)
    (h : n < bytes.length) : readByte (writeBytes m a bytes) (a + n) = some bytes[n] := by
  induction bytes generalizing m a n with
  | nil => simp at h
  | cons b rest ih =>
    rw [writeBytes]
    cases n with
    | zero =>
      rw [readByte_writeBytes_outside _ _ _ _ (by omega)]
      simpa using readByte_writeByte_same m a b
    | succ n =>
      have := ih (writeByte m a b) (a + 1) n (by simpa using h)
      simpa [Nat.add_assoc, Nat.add_comm 1 n] using this

@[simp] theorem wordBytes_length (v : Word32) : (wordBytes v).length = 4 := rfl

/-- The bytes of a word put together again (R74). -/
theorem wordOfBytes_wordBytes (v : Word32) :
    wordOfBytes (v.extractLsb' 24 8) (v.extractLsb' 16 8) (v.extractLsb' 8 8)
      (v.extractLsb' 0 8) = v := by
  apply BitVec.eq_of_getLsbD_eq
  intro i hi
  simp only [wordOfBytes, BitVec.getLsbD_append, BitVec.getLsbD_extractLsb']
  split
  · simp [*]
  · split
    · rename_i h1 h2; simp [h2, show 8 + (i - 8) = i by omega]
    · split
      · rename_i h1 h2 h3; simp [h3, show 16 + (i - 8 - 8) = i by omega]
      · rename_i h1 h2 h3
        simp [show i - 8 - 8 - 8 < 8 by omega, show 24 + (i - 8 - 8 - 8) = i by omega]

theorem readWord_writeWord_same (m : Memory) (b : Buf) (i : Nat) (v : Word32) :
    readWord (writeWord m b i v) b i = some v := by
  have h : ∀ n (hn : n < 4),
      readByte (writeWord m b i v) (bufBase b + 4 * i + n) = some (wordBytes v)[n] :=
    fun n hn => readByte_writeBytes_inside (wordBytes v) m _ n hn
  have h0 := h 0 (by decide)
  simp only [Nat.add_zero] at h0
  simp only [readWord, h0, h 1 (by decide), h 2 (by decide), h 3 (by decide)]
  simpa [wordBytes] using wordOfBytes_wordBytes v

/-- A word write changes no byte outside its four bytes. -/
theorem readByte_writeWord_outside (m : Memory) (b : Buf) (i : Nat) (v : Word32) (x : Nat)
    (h : x < bufBase b + 4 * i ∨ bufBase b + 4 * i + 4 ≤ x) :
    readByte (writeWord m b i v) x = readByte m x :=
  readByte_writeBytes_outside (wordBytes v) m _ x h

/-- A word write changes no other word (R78). -/
theorem readWord_writeWord_other (m : Memory) (b c : Buf) (i j : Nat) (v : Word32)
    (hi : i < 128) (hj : j < 128) (h : c ≠ b ∨ j ≠ i) :
    readWord (writeWord m b i v) c j = readWord m c j := by
  have hsep : ∀ n < 4, bufBase c + 4 * j + n < bufBase b + 4 * i ∨
      bufBase b + 4 * i + 4 ≤ bufBase c + 4 * j + n := by
    intro n hn
    cases b <;> cases c <;> simp [bufBase] at h ⊢ <;> omega
  have hr : ∀ n < 4, readByte (writeWord m b i v) (bufBase c + 4 * j + n) =
      readByte m (bufBase c + 4 * j + n) :=
    fun n hn => readByte_writeWord_outside _ _ _ _ _ (hsep n hn)
  have h0 := hr 0 (by decide)
  simp only [Nat.add_zero] at h0
  simp only [readWord, h0, hr 1 (by decide), hr 2 (by decide), hr 3 (by decide)]

/-- A word write inside a buffer keeps the canonical form. -/
theorem writeWord_wf {m : Memory} (hm : m.wf) (b : Buf) {i : Nat} (hi : i < 128) (v : Word32) :
    (writeWord m b i v).wf :=
  writeBytes_wf _ hm (by cases b <;> simp [bufBase] <;> omega)

/-! ## Whole blocks -/

theorem readByte_append (m n : Memory) (x : Nat) :
    readByte (m ++ n) x = (readByte m x).or (readByte n x) := by
  induction m with
  | nil => simp [readByte]
  | cons c rest ih =>
    obtain ⟨k, v⟩ := c
    simp only [List.cons_append, readByte]
    split <;> simp [ih]

theorem readByte_filter (p : Nat → Bool) (m : Memory) (x : Nat) :
    readByte (m.filter (fun c => p c.1)) x = if p x then readByte m x else none := by
  induction m with
  | nil => simp [readByte]
  | cons c rest ih =>
    obtain ⟨k, v⟩ := c
    by_cases hk : p k = true
    · by_cases hx : k = x
      · subst hx; simp [hk, readByte]
      · simp [hk, readByte, ih, hx]
    · by_cases hx : k = x
      · subst hx; simp [hk, ih]
      · simp [hk, readByte, ih, hx]

theorem cellsFrom_mem {a : Nat} {bytes : List Byte} {c : Host.Cell} (h : c ∈ cellsFrom a bytes) :
    a ≤ c.1 ∧ c.1 < a + bytes.length := by
  induction bytes generalizing a with
  | nil => simp [cellsFrom] at h
  | cons b rest ih =>
    rcases List.mem_cons.1 h with rfl | h
    · simp
    · have := ih h
      simp only [List.length_cons]; omega

theorem cellsFrom_rising (a : Nat) (bytes : List Byte) :
    (cellsFrom a bytes).Pairwise (fun c d => c.1 < d.1) := by
  induction bytes generalizing a with
  | nil => simp [cellsFrom]
  | cons b rest ih =>
    exact List.pairwise_cons.2
      ⟨fun c hc => by have := (cellsFrom_mem hc).1; simp only; omega, ih (a + 1)⟩

theorem readByte_cellsFrom (a : Nat) (bytes : List Byte) (x : Nat) :
    readByte (cellsFrom a bytes) x = if a ≤ x then bytes[x - a]? else none := by
  induction bytes generalizing a with
  | nil => simp [cellsFrom, readByte]
  | cons b rest ih =>
    simp only [cellsFrom, readByte, ih]
    by_cases hx : a = x
    · simp [hx]
    · by_cases hle : a ≤ x
      · have h1 : a + 1 ≤ x := by omega
        have h2 : x - a = (x - (a + 1)) + 1 := by omega
        simp [hx, hle, h1, h2]
      · have h1 : ¬ a + 1 ≤ x := by omega
        simp [hx, hle, h1]

/-- The bytes of the buffers after a block landed in one of them. -/
theorem readByte_writeBlock (m : Memory) (b : Buf) (bytes : List Byte) (hlen : bytes.length = 512)
    (x : Nat) :
    readByte (writeBlock m b bytes) x =
      if bufBase b ≤ x ∧ x < bufBase b + 512 then bytes[x - bufBase b]? else readByte m x := by
  have hf := readByte_filter (fun k => decide (k < bufBase b)) m x
  have hg := readByte_filter (fun k => decide (bufBase b + 512 ≤ k)) m x
  simp only [writeBlock, readByte_append, readByte_cellsFrom, hf, hg, decide_eq_true_eq]
  by_cases h1 : x < bufBase b
  · have h2 : ¬ bufBase b ≤ x := by omega
    have h3 : ¬ bufBase b + 512 ≤ x := by omega
    simp [h1, h2, h3]
  · have h2 : bufBase b ≤ x := by omega
    by_cases h3 : bufBase b + 512 ≤ x
    · have h4 : ¬ x < bufBase b + 512 := by omega
      have h5 : bytes[x - bufBase b]? = none := List.getElem?_eq_none (by omega)
      simp [h1, h2, h3, h4, h5]
    · have h4 : x < bufBase b + 512 := by omega
      simp [h1, h2, h3, h4]

/-- The bytes of the buffers after a buffer's words became unwritten. -/
theorem readByte_dropBlock (m : Memory) (b : Buf) (x : Nat) :
    readByte (dropBlock m b) x =
      if bufBase b ≤ x ∧ x < bufBase b + 512 then none else readByte m x := by
  have hf := readByte_filter (fun k => decide (k < bufBase b)) m x
  have hg := readByte_filter (fun k => decide (bufBase b + 512 ≤ k)) m x
  simp only [dropBlock, readByte_append, hf, hg, decide_eq_true_eq]
  by_cases h1 : x < bufBase b
  · have h2 : ¬ bufBase b ≤ x := by omega
    have h3 : ¬ bufBase b + 512 ≤ x := by omega
    simp [h1, h2, h3]
  · have h2 : bufBase b ≤ x := by omega
    by_cases h3 : bufBase b + 512 ≤ x
    · have h4 : ¬ x < bufBase b + 512 := by omega
      simp [h1, h2, h3, h4]
    · have h4 : x < bufBase b + 512 := by omega
      simp [h1, h2, h3, h4]

theorem bufBase_le (b : Buf) : bufBase b + 512 ≤ 1024 := by cases b <;> simp [bufBase]

/-- A landed block keeps the canonical form. -/
theorem writeBlock_wf {m : Memory} (hm : m.wf) (b : Buf) {bytes : List Byte}
    (hlen : bytes.length ≤ 512) : (writeBlock m b bytes).wf := by
  have hb := bufBase_le b
  refine ⟨?_, fun c hc => ?_⟩
  · refine List.pairwise_append.2 ⟨List.pairwise_append.2
      ⟨hm.1.filter _, cellsFrom_rising _ _, fun c hc d hd => ?_⟩, hm.1.filter _,
      fun c hc d hd => ?_⟩
    · have h1 := (List.mem_filter.1 hc).2
      have h2 := (cellsFrom_mem hd).1
      simp only [decide_eq_true_eq] at h1; omega
    · have h2 := (List.mem_filter.1 hd).2
      simp only [decide_eq_true_eq] at h2
      rcases List.mem_append.1 hc with hc | hc
      · have h1 := (List.mem_filter.1 hc).2
        simp only [decide_eq_true_eq] at h1; omega
      · have h1 := (cellsFrom_mem hc).2
        omega
  · rcases List.mem_append.1 hc with hc | hc
    · rcases List.mem_append.1 hc with hc | hc
      · exact hm.2 c (List.mem_filter.1 hc).1
      · have h1 := (cellsFrom_mem hc).2
        omega
    · exact hm.2 c (List.mem_filter.1 hc).1

/-- Making a buffer unwritten keeps the canonical form. -/
theorem dropBlock_wf {m : Memory} (hm : m.wf) (b : Buf) : (dropBlock m b).wf := by
  refine ⟨List.pairwise_append.2 ⟨hm.1.filter _, hm.1.filter _, fun c hc d hd => ?_⟩,
    fun c hc => ?_⟩
  · have h1 := (List.mem_filter.1 hc).2
    have h2 := (List.mem_filter.1 hd).2
    simp only [decide_eq_true_eq] at h1 h2; omega
  · rcases List.mem_append.1 hc with hc | hc
    · exact hm.2 c (List.mem_filter.1 hc).1
    · exact hm.2 c (List.mem_filter.1 hc).1

/-! ## Draws -/

/-- A buffer block always has its 128 words, written or drawn. -/
theorem fillDraws_length (ws : List (Option Word32)) (n : Nat) :
    (fillDraws ws n).1.length = ws.length := by
  induction ws generalizing n with
  | nil => rfl
  | cons w rest ih => cases w <;> simp [fillDraws, ih]

/-- Where every word is written nothing is drawn. -/
theorem fillDraws_all_written (ws : List Word32) (n : Nat) :
    fillDraws (ws.map some) n = (ws, n) := by
  induction ws with
  | nil => rfl
  | cons w rest ih => simp [fillDraws, ih]

end Sys2Proof.Machine
end

