-- ==== Sys2Proof/Laws/State.lean ====
section
/-! SUPPORT. The fields of the state after each shared update: one lemma per field and update, so
that no proof unfolds a record update. -/

namespace Sys2Proof.Machine

/-! ### emit -/

@[simp] theorem emit_cardState (o : Output) (s : State) :
    (emit o s).cardState = s.cardState := rfl
@[simp] theorem emit_rca (o : Output) (s : State) :
    (emit o s).rca = s.rca := rfl
@[simp] theorem emit_appCmd (o : Output) (s : State) :
    (emit o s).appCmd = s.appCmd := rfl
@[simp] theorem emit_blkCountPending (o : Output) (s : State) :
    (emit o s).blkCountPending = s.blkCountPending := rfl
@[simp] theorem emit_xferBounded (o : Output) (s : State) :
    (emit o s).xferBounded = s.xferBounded := rfl
@[simp] theorem emit_rdPhase (o : Output) (s : State) :
    (emit o s).rdPhase = s.rdPhase := rfl
@[simp] theorem emit_rdRegPayload (o : Output) (s : State) :
    (emit o s).rdRegPayload = s.rdRegPayload := rfl
@[simp] theorem emit_wrPhase (o : Output) (s : State) :
    (emit o s).wrPhase = s.wrPhase := rfl
@[simp] theorem emit_wrFirst (o : Output) (s : State) :
    (emit o s).wrFirst = s.wrFirst := rfl
@[simp] theorem emit_wrStopping (o : Output) (s : State) :
    (emit o s).wrStopping = s.wrStopping := rfl
@[simp] theorem emit_busWidth (o : Output) (s : State) :
    (emit o s).busWidth = s.busWidth := rfl
@[simp] theorem emit_hsActive (o : Output) (s : State) :
    (emit o s).hsActive = s.hsActive := rfl
@[simp] theorem emit_stOutOfRange (o : Output) (s : State) :
    (emit o s).stOutOfRange = s.stOutOfRange := rfl
@[simp] theorem emit_stComCrcError (o : Output) (s : State) :
    (emit o s).stComCrcError = s.stComCrcError := rfl
@[simp] theorem emit_stIllegalCommand (o : Output) (s : State) :
    (emit o s).stIllegalCommand = s.stIllegalCommand := rfl
@[simp] theorem emit_blockReadAct (o : Output) (s : State) :
    (emit o s).blockReadAct = s.blockReadAct := rfl
@[simp] theorem emit_blockReadAddr (o : Output) (s : State) :
    (emit o s).blockReadAddr = s.blockReadAddr := rfl
@[simp] theorem emit_blockReadNum (o : Output) (s : State) :
    (emit o s).blockReadNum = s.blockReadNum := rfl
@[simp] theorem emit_blockReadStop (o : Output) (s : State) :
    (emit o s).blockReadStop = s.blockReadStop := rfl
@[simp] theorem emit_blockWriteAct (o : Output) (s : State) :
    (emit o s).blockWriteAct = s.blockWriteAct := rfl
@[simp] theorem emit_blockWriteAddr (o : Output) (s : State) :
    (emit o s).blockWriteAddr = s.blockWriteAddr := rfl
@[simp] theorem emit_blockWriteNum (o : Output) (s : State) :
    (emit o s).blockWriteNum = s.blockWriteNum := rfl
@[simp] theorem emit_preeraseNum (o : Output) (s : State) :
    (emit o s).preeraseNum = s.preeraseNum := rfl
@[simp] theorem emit_eraseStart (o : Output) (s : State) :
    (emit o s).eraseStart = s.eraseStart := rfl
@[simp] theorem emit_eraseEnd (o : Output) (s : State) :
    (emit o s).eraseEnd = s.eraseEnd := rfl
@[simp] theorem emit_infoCardDesel (o : Output) (s : State) :
    (emit o s).infoCardDesel = s.infoCardDesel := rfl
@[simp] theorem emit_errCmdCrc (o : Output) (s : State) :
    (emit o s).errCmdCrc = s.errCmdCrc := rfl
@[simp] theorem emit_errUnhandledCmd (o : Output) (s : State) :
    (emit o s).errUnhandledCmd = s.errUnhandledCmd := rfl
@[simp] theorem emit_errOpOutRange (o : Output) (s : State) :
    (emit o s).errOpOutRange = s.errOpOutRange := rfl
@[simp] theorem emit_errHostIsSpi (o : Output) (s : State) :
    (emit o s).errHostIsSpi = s.errHostIsSpi := rfl
@[simp] theorem emit_mem (o : Output) (s : State) :
    (emit o s).mem = s.mem := rfl
@[simp] theorem emit_faults (o : Output) (s : State) :
    (emit o s).faults = s.faults := rfl
@[simp] theorem emit_out (o : Output) (s : State) :
    (emit o s).out = s.out ++ [o] := rfl
@[simp] theorem emit_inputs (o : Output) (s : State) :
    (emit o s).inputs = s.inputs := rfl
@[simp] theorem emit_dat3 (o : Output) (s : State) :
    (emit o s).dat3 = s.dat3 := rfl
@[simp] theorem emit_draws (o : Output) (s : State) :
    (emit o s).draws = s.draws := rfl
@[simp] theorem emit_portData (o : Output) (s : State) :
    (emit o s).portData = s.portData := rfl

/-! ### beginFrame -/

@[simp] theorem beginFrame_cardState (s : State) :
    (beginFrame s).cardState = s.cardState := rfl
@[simp] theorem beginFrame_rca (s : State) :
    (beginFrame s).rca = s.rca := rfl
@[simp] theorem beginFrame_appCmd (s : State) :
    (beginFrame s).appCmd = false := rfl
@[simp] theorem beginFrame_blkCountPending (s : State) :
    (beginFrame s).blkCountPending = s.blkCountPending := rfl
@[simp] theorem beginFrame_xferBounded (s : State) :
    (beginFrame s).xferBounded = s.xferBounded := rfl
@[simp] theorem beginFrame_rdPhase (s : State) :
    (beginFrame s).rdPhase = s.rdPhase := rfl
@[simp] theorem beginFrame_rdRegPayload (s : State) :
    (beginFrame s).rdRegPayload = s.rdRegPayload := rfl
@[simp] theorem beginFrame_wrPhase (s : State) :
    (beginFrame s).wrPhase = s.wrPhase := rfl
@[simp] theorem beginFrame_wrFirst (s : State) :
    (beginFrame s).wrFirst = s.wrFirst := rfl
@[simp] theorem beginFrame_wrStopping (s : State) :
    (beginFrame s).wrStopping = s.wrStopping := rfl
@[simp] theorem beginFrame_busWidth (s : State) :
    (beginFrame s).busWidth = s.busWidth := rfl
@[simp] theorem beginFrame_hsActive (s : State) :
    (beginFrame s).hsActive = s.hsActive := rfl
@[simp] theorem beginFrame_stOutOfRange (s : State) :
    (beginFrame s).stOutOfRange = s.stOutOfRange := rfl
@[simp] theorem beginFrame_stComCrcError (s : State) :
    (beginFrame s).stComCrcError = s.stComCrcError := rfl
@[simp] theorem beginFrame_stIllegalCommand (s : State) :
    (beginFrame s).stIllegalCommand = s.stIllegalCommand := rfl
@[simp] theorem beginFrame_blockReadAct (s : State) :
    (beginFrame s).blockReadAct = s.blockReadAct := rfl
@[simp] theorem beginFrame_blockReadAddr (s : State) :
    (beginFrame s).blockReadAddr = s.blockReadAddr := rfl
@[simp] theorem beginFrame_blockReadNum (s : State) :
    (beginFrame s).blockReadNum = s.blockReadNum := rfl
@[simp] theorem beginFrame_blockReadStop (s : State) :
    (beginFrame s).blockReadStop = s.blockReadStop := rfl
@[simp] theorem beginFrame_blockWriteAct (s : State) :
    (beginFrame s).blockWriteAct = s.blockWriteAct := rfl
@[simp] theorem beginFrame_blockWriteAddr (s : State) :
    (beginFrame s).blockWriteAddr = s.blockWriteAddr := rfl
@[simp] theorem beginFrame_blockWriteNum (s : State) :
    (beginFrame s).blockWriteNum = s.blockWriteNum := rfl
@[simp] theorem beginFrame_preeraseNum (s : State) :
    (beginFrame s).preeraseNum = s.preeraseNum := rfl
@[simp] theorem beginFrame_eraseStart (s : State) :
    (beginFrame s).eraseStart = s.eraseStart := rfl
@[simp] theorem beginFrame_eraseEnd (s : State) :
    (beginFrame s).eraseEnd = s.eraseEnd := rfl
@[simp] theorem beginFrame_infoCardDesel (s : State) :
    (beginFrame s).infoCardDesel = s.infoCardDesel := rfl
@[simp] theorem beginFrame_errCmdCrc (s : State) :
    (beginFrame s).errCmdCrc = s.errCmdCrc := rfl
@[simp] theorem beginFrame_errUnhandledCmd (s : State) :
    (beginFrame s).errUnhandledCmd = s.errUnhandledCmd := rfl
@[simp] theorem beginFrame_errOpOutRange (s : State) :
    (beginFrame s).errOpOutRange = s.errOpOutRange := rfl
@[simp] theorem beginFrame_errHostIsSpi (s : State) :
    (beginFrame s).errHostIsSpi = s.errHostIsSpi := rfl
@[simp] theorem beginFrame_mem (s : State) :
    (beginFrame s).mem = s.mem := rfl
@[simp] theorem beginFrame_faults (s : State) :
    (beginFrame s).faults = s.faults := rfl
@[simp] theorem beginFrame_out (s : State) :
    (beginFrame s).out = s.out := rfl
@[simp] theorem beginFrame_inputs (s : State) :
    (beginFrame s).inputs = s.inputs := rfl
@[simp] theorem beginFrame_dat3 (s : State) :
    (beginFrame s).dat3 = s.dat3 := rfl
@[simp] theorem beginFrame_draws (s : State) :
    (beginFrame s).draws = s.draws := rfl
@[simp] theorem beginFrame_portData (s : State) :
    (beginFrame s).portData = s.portData := rfl

/-! ### rejectCrc -/

@[simp] theorem rejectCrc_cardState (s : State) :
    (rejectCrc s).cardState = s.cardState := rfl
@[simp] theorem rejectCrc_rca (s : State) :
    (rejectCrc s).rca = s.rca := rfl
@[simp] theorem rejectCrc_appCmd (s : State) :
    (rejectCrc s).appCmd = s.appCmd := rfl
@[simp] theorem rejectCrc_blkCountPending (s : State) :
    (rejectCrc s).blkCountPending = s.blkCountPending := rfl
@[simp] theorem rejectCrc_xferBounded (s : State) :
    (rejectCrc s).xferBounded = s.xferBounded := rfl
@[simp] theorem rejectCrc_rdPhase (s : State) :
    (rejectCrc s).rdPhase = s.rdPhase := rfl
@[simp] theorem rejectCrc_rdRegPayload (s : State) :
    (rejectCrc s).rdRegPayload = s.rdRegPayload := rfl
@[simp] theorem rejectCrc_wrPhase (s : State) :
    (rejectCrc s).wrPhase = s.wrPhase := rfl
@[simp] theorem rejectCrc_wrFirst (s : State) :
    (rejectCrc s).wrFirst = s.wrFirst := rfl
@[simp] theorem rejectCrc_wrStopping (s : State) :
    (rejectCrc s).wrStopping = s.wrStopping := rfl
@[simp] theorem rejectCrc_busWidth (s : State) :
    (rejectCrc s).busWidth = s.busWidth := rfl
@[simp] theorem rejectCrc_hsActive (s : State) :
    (rejectCrc s).hsActive = s.hsActive := rfl
@[simp] theorem rejectCrc_stOutOfRange (s : State) :
    (rejectCrc s).stOutOfRange = s.stOutOfRange := rfl
@[simp] theorem rejectCrc_stComCrcError (s : State) :
    (rejectCrc s).stComCrcError = true := rfl
@[simp] theorem rejectCrc_stIllegalCommand (s : State) :
    (rejectCrc s).stIllegalCommand = s.stIllegalCommand := rfl
@[simp] theorem rejectCrc_blockReadAct (s : State) :
    (rejectCrc s).blockReadAct = s.blockReadAct := rfl
@[simp] theorem rejectCrc_blockReadAddr (s : State) :
    (rejectCrc s).blockReadAddr = s.blockReadAddr := rfl
@[simp] theorem rejectCrc_blockReadNum (s : State) :
    (rejectCrc s).blockReadNum = s.blockReadNum := rfl
@[simp] theorem rejectCrc_blockReadStop (s : State) :
    (rejectCrc s).blockReadStop = s.blockReadStop := rfl
@[simp] theorem rejectCrc_blockWriteAct (s : State) :
    (rejectCrc s).blockWriteAct = s.blockWriteAct := rfl
@[simp] theorem rejectCrc_blockWriteAddr (s : State) :
    (rejectCrc s).blockWriteAddr = s.blockWriteAddr := rfl
@[simp] theorem rejectCrc_blockWriteNum (s : State) :
    (rejectCrc s).blockWriteNum = s.blockWriteNum := rfl
@[simp] theorem rejectCrc_preeraseNum (s : State) :
    (rejectCrc s).preeraseNum = s.preeraseNum := rfl
@[simp] theorem rejectCrc_eraseStart (s : State) :
    (rejectCrc s).eraseStart = s.eraseStart := rfl
@[simp] theorem rejectCrc_eraseEnd (s : State) :
    (rejectCrc s).eraseEnd = s.eraseEnd := rfl
@[simp] theorem rejectCrc_infoCardDesel (s : State) :
    (rejectCrc s).infoCardDesel = s.infoCardDesel := rfl
@[simp] theorem rejectCrc_errCmdCrc (s : State) :
    (rejectCrc s).errCmdCrc = true := rfl
@[simp] theorem rejectCrc_errUnhandledCmd (s : State) :
    (rejectCrc s).errUnhandledCmd = s.errUnhandledCmd := rfl
@[simp] theorem rejectCrc_errOpOutRange (s : State) :
    (rejectCrc s).errOpOutRange = s.errOpOutRange := rfl
@[simp] theorem rejectCrc_errHostIsSpi (s : State) :
    (rejectCrc s).errHostIsSpi = s.errHostIsSpi := rfl
@[simp] theorem rejectCrc_mem (s : State) :
    (rejectCrc s).mem = s.mem := rfl
@[simp] theorem rejectCrc_faults (s : State) :
    (rejectCrc s).faults = s.faults := rfl
@[simp] theorem rejectCrc_out (s : State) :
    (rejectCrc s).out = s.out := rfl
@[simp] theorem rejectCrc_inputs (s : State) :
    (rejectCrc s).inputs = s.inputs := rfl
@[simp] theorem rejectCrc_dat3 (s : State) :
    (rejectCrc s).dat3 = s.dat3 := rfl
@[simp] theorem rejectCrc_draws (s : State) :
    (rejectCrc s).draws = s.draws := rfl
@[simp] theorem rejectCrc_portData (s : State) :
    (rejectCrc s).portData = s.portData := rfl

/-! ### rejectIllegal -/

@[simp] theorem rejectIllegal_cardState (s : State) :
    (rejectIllegal s).cardState = s.cardState := rfl
@[simp] theorem rejectIllegal_rca (s : State) :
    (rejectIllegal s).rca = s.rca := rfl
@[simp] theorem rejectIllegal_appCmd (s : State) :
    (rejectIllegal s).appCmd = s.appCmd := rfl
@[simp] theorem rejectIllegal_blkCountPending (s : State) :
    (rejectIllegal s).blkCountPending = s.blkCountPending := rfl
@[simp] theorem rejectIllegal_xferBounded (s : State) :
    (rejectIllegal s).xferBounded = s.xferBounded := rfl
@[simp] theorem rejectIllegal_rdPhase (s : State) :
    (rejectIllegal s).rdPhase = s.rdPhase := rfl
@[simp] theorem rejectIllegal_rdRegPayload (s : State) :
    (rejectIllegal s).rdRegPayload = s.rdRegPayload := rfl
@[simp] theorem rejectIllegal_wrPhase (s : State) :
    (rejectIllegal s).wrPhase = s.wrPhase := rfl
@[simp] theorem rejectIllegal_wrFirst (s : State) :
    (rejectIllegal s).wrFirst = s.wrFirst := rfl
@[simp] theorem rejectIllegal_wrStopping (s : State) :
    (rejectIllegal s).wrStopping = s.wrStopping := rfl
@[simp] theorem rejectIllegal_busWidth (s : State) :
    (rejectIllegal s).busWidth = s.busWidth := rfl
@[simp] theorem rejectIllegal_hsActive (s : State) :
    (rejectIllegal s).hsActive = s.hsActive := rfl
@[simp] theorem rejectIllegal_stOutOfRange (s : State) :
    (rejectIllegal s).stOutOfRange = s.stOutOfRange := rfl
@[simp] theorem rejectIllegal_stComCrcError (s : State) :
    (rejectIllegal s).stComCrcError = s.stComCrcError := rfl
@[simp] theorem rejectIllegal_stIllegalCommand (s : State) :
    (rejectIllegal s).stIllegalCommand = true := rfl
@[simp] theorem rejectIllegal_blockReadAct (s : State) :
    (rejectIllegal s).blockReadAct = s.blockReadAct := rfl
@[simp] theorem rejectIllegal_blockReadAddr (s : State) :
    (rejectIllegal s).blockReadAddr = s.blockReadAddr := rfl
@[simp] theorem rejectIllegal_blockReadNum (s : State) :
    (rejectIllegal s).blockReadNum = s.blockReadNum := rfl
@[simp] theorem rejectIllegal_blockReadStop (s : State) :
    (rejectIllegal s).blockReadStop = s.blockReadStop := rfl
@[simp] theorem rejectIllegal_blockWriteAct (s : State) :
    (rejectIllegal s).blockWriteAct = s.blockWriteAct := rfl
@[simp] theorem rejectIllegal_blockWriteAddr (s : State) :
    (rejectIllegal s).blockWriteAddr = s.blockWriteAddr := rfl
@[simp] theorem rejectIllegal_blockWriteNum (s : State) :
    (rejectIllegal s).blockWriteNum = s.blockWriteNum := rfl
@[simp] theorem rejectIllegal_preeraseNum (s : State) :
    (rejectIllegal s).preeraseNum = s.preeraseNum := rfl
@[simp] theorem rejectIllegal_eraseStart (s : State) :
    (rejectIllegal s).eraseStart = s.eraseStart := rfl
@[simp] theorem rejectIllegal_eraseEnd (s : State) :
    (rejectIllegal s).eraseEnd = s.eraseEnd := rfl
@[simp] theorem rejectIllegal_infoCardDesel (s : State) :
    (rejectIllegal s).infoCardDesel = s.infoCardDesel := rfl
@[simp] theorem rejectIllegal_errCmdCrc (s : State) :
    (rejectIllegal s).errCmdCrc = s.errCmdCrc := rfl
@[simp] theorem rejectIllegal_errUnhandledCmd (s : State) :
    (rejectIllegal s).errUnhandledCmd = true := rfl
@[simp] theorem rejectIllegal_errOpOutRange (s : State) :
    (rejectIllegal s).errOpOutRange = s.errOpOutRange := rfl
@[simp] theorem rejectIllegal_errHostIsSpi (s : State) :
    (rejectIllegal s).errHostIsSpi = s.errHostIsSpi := rfl
@[simp] theorem rejectIllegal_mem (s : State) :
    (rejectIllegal s).mem = s.mem := rfl
@[simp] theorem rejectIllegal_faults (s : State) :
    (rejectIllegal s).faults = s.faults := rfl
@[simp] theorem rejectIllegal_out (s : State) :
    (rejectIllegal s).out = s.out := rfl
@[simp] theorem rejectIllegal_inputs (s : State) :
    (rejectIllegal s).inputs = s.inputs := rfl
@[simp] theorem rejectIllegal_dat3 (s : State) :
    (rejectIllegal s).dat3 = s.dat3 := rfl
@[simp] theorem rejectIllegal_draws (s : State) :
    (rejectIllegal s).draws = s.draws := rfl
@[simp] theorem rejectIllegal_portData (s : State) :
    (rejectIllegal s).portData = s.portData := rfl

/-! ### finish -/

@[simp] theorem finish_cardState (k r : Bool) (s : State) :
    (finish k r s).cardState = s.cardState := rfl
@[simp] theorem finish_rca (k r : Bool) (s : State) :
    (finish k r s).rca = s.rca := rfl
@[simp] theorem finish_appCmd (k r : Bool) (s : State) :
    (finish k r s).appCmd = s.appCmd := rfl
@[simp] theorem finish_blkCountPending (k r : Bool) (s : State) :
    (finish k r s).blkCountPending = if k then s.blkCountPending else 0#32 := rfl
@[simp] theorem finish_xferBounded (k r : Bool) (s : State) :
    (finish k r s).xferBounded = s.xferBounded := rfl
@[simp] theorem finish_rdPhase (k r : Bool) (s : State) :
    (finish k r s).rdPhase = s.rdPhase := rfl
@[simp] theorem finish_rdRegPayload (k r : Bool) (s : State) :
    (finish k r s).rdRegPayload = s.rdRegPayload := rfl
@[simp] theorem finish_wrPhase (k r : Bool) (s : State) :
    (finish k r s).wrPhase = s.wrPhase := rfl
@[simp] theorem finish_wrFirst (k r : Bool) (s : State) :
    (finish k r s).wrFirst = s.wrFirst := rfl
@[simp] theorem finish_wrStopping (k r : Bool) (s : State) :
    (finish k r s).wrStopping = s.wrStopping := rfl
@[simp] theorem finish_busWidth (k r : Bool) (s : State) :
    (finish k r s).busWidth = s.busWidth := rfl
@[simp] theorem finish_hsActive (k r : Bool) (s : State) :
    (finish k r s).hsActive = s.hsActive := rfl
@[simp] theorem finish_stOutOfRange (k r : Bool) (s : State) :
    (finish k r s).stOutOfRange = if r then false else s.stOutOfRange := rfl
@[simp] theorem finish_stComCrcError (k r : Bool) (s : State) :
    (finish k r s).stComCrcError = false := rfl
@[simp] theorem finish_stIllegalCommand (k r : Bool) (s : State) :
    (finish k r s).stIllegalCommand = false := rfl
@[simp] theorem finish_blockReadAct (k r : Bool) (s : State) :
    (finish k r s).blockReadAct = s.blockReadAct := rfl
@[simp] theorem finish_blockReadAddr (k r : Bool) (s : State) :
    (finish k r s).blockReadAddr = s.blockReadAddr := rfl
@[simp] theorem finish_blockReadNum (k r : Bool) (s : State) :
    (finish k r s).blockReadNum = s.blockReadNum := rfl
@[simp] theorem finish_blockReadStop (k r : Bool) (s : State) :
    (finish k r s).blockReadStop = s.blockReadStop := rfl
@[simp] theorem finish_blockWriteAct (k r : Bool) (s : State) :
    (finish k r s).blockWriteAct = s.blockWriteAct := rfl
@[simp] theorem finish_blockWriteAddr (k r : Bool) (s : State) :
    (finish k r s).blockWriteAddr = s.blockWriteAddr := rfl
@[simp] theorem finish_blockWriteNum (k r : Bool) (s : State) :
    (finish k r s).blockWriteNum = s.blockWriteNum := rfl
@[simp] theorem finish_preeraseNum (k r : Bool) (s : State) :
    (finish k r s).preeraseNum = s.preeraseNum := rfl
@[simp] theorem finish_eraseStart (k r : Bool) (s : State) :
    (finish k r s).eraseStart = s.eraseStart := rfl
@[simp] theorem finish_eraseEnd (k r : Bool) (s : State) :
    (finish k r s).eraseEnd = s.eraseEnd := rfl
@[simp] theorem finish_infoCardDesel (k r : Bool) (s : State) :
    (finish k r s).infoCardDesel = s.infoCardDesel := rfl
@[simp] theorem finish_errCmdCrc (k r : Bool) (s : State) :
    (finish k r s).errCmdCrc = s.errCmdCrc := rfl
@[simp] theorem finish_errUnhandledCmd (k r : Bool) (s : State) :
    (finish k r s).errUnhandledCmd = s.errUnhandledCmd := rfl
@[simp] theorem finish_errOpOutRange (k r : Bool) (s : State) :
    (finish k r s).errOpOutRange = s.errOpOutRange := rfl
@[simp] theorem finish_errHostIsSpi (k r : Bool) (s : State) :
    (finish k r s).errHostIsSpi = s.errHostIsSpi := rfl
@[simp] theorem finish_mem (k r : Bool) (s : State) :
    (finish k r s).mem = s.mem := rfl
@[simp] theorem finish_faults (k r : Bool) (s : State) :
    (finish k r s).faults = s.faults := rfl
@[simp] theorem finish_out (k r : Bool) (s : State) :
    (finish k r s).out = s.out := rfl
@[simp] theorem finish_inputs (k r : Bool) (s : State) :
    (finish k r s).inputs = s.inputs := rfl
@[simp] theorem finish_dat3 (k r : Bool) (s : State) :
    (finish k r s).dat3 = s.dat3 := rfl
@[simp] theorem finish_draws (k r : Bool) (s : State) :
    (finish k r s).draws = s.draws := rfl
@[simp] theorem finish_portData (k r : Bool) (s : State) :
    (finish k r s).portData = s.portData := rfl

/-! ### abort -/

@[simp] theorem abort_cardState (s : State) :
    (abort s).cardState = s.cardState := rfl
@[simp] theorem abort_rca (s : State) :
    (abort s).rca = s.rca := rfl
@[simp] theorem abort_appCmd (s : State) :
    (abort s).appCmd = s.appCmd := rfl
@[simp] theorem abort_blkCountPending (s : State) :
    (abort s).blkCountPending = s.blkCountPending := rfl
@[simp] theorem abort_xferBounded (s : State) :
    (abort s).xferBounded = false := rfl
@[simp] theorem abort_rdPhase (s : State) :
    (abort s).rdPhase = .rIdle := rfl
@[simp] theorem abort_rdRegPayload (s : State) :
    (abort s).rdRegPayload = [] := rfl
@[simp] theorem abort_wrPhase (s : State) :
    (abort s).wrPhase = .wIdle := rfl
@[simp] theorem abort_wrFirst (s : State) :
    (abort s).wrFirst = false := rfl
@[simp] theorem abort_wrStopping (s : State) :
    (abort s).wrStopping = false := rfl
@[simp] theorem abort_busWidth (s : State) :
    (abort s).busWidth = s.busWidth := rfl
@[simp] theorem abort_hsActive (s : State) :
    (abort s).hsActive = s.hsActive := rfl
@[simp] theorem abort_stOutOfRange (s : State) :
    (abort s).stOutOfRange = s.stOutOfRange := rfl
@[simp] theorem abort_stComCrcError (s : State) :
    (abort s).stComCrcError = s.stComCrcError := rfl
@[simp] theorem abort_stIllegalCommand (s : State) :
    (abort s).stIllegalCommand = s.stIllegalCommand := rfl
@[simp] theorem abort_blockReadAct (s : State) :
    (abort s).blockReadAct = false := rfl
@[simp] theorem abort_blockReadAddr (s : State) :
    (abort s).blockReadAddr = s.blockReadAddr := rfl
@[simp] theorem abort_blockReadNum (s : State) :
    (abort s).blockReadNum = 0#32 := rfl
@[simp] theorem abort_blockReadStop (s : State) :
    (abort s).blockReadStop = s.blockReadStop := rfl
@[simp] theorem abort_blockWriteAct (s : State) :
    (abort s).blockWriteAct = false := rfl
@[simp] theorem abort_blockWriteAddr (s : State) :
    (abort s).blockWriteAddr = s.blockWriteAddr := rfl
@[simp] theorem abort_blockWriteNum (s : State) :
    (abort s).blockWriteNum = 0#32 := rfl
@[simp] theorem abort_preeraseNum (s : State) :
    (abort s).preeraseNum = s.preeraseNum := rfl
@[simp] theorem abort_eraseStart (s : State) :
    (abort s).eraseStart = s.eraseStart := rfl
@[simp] theorem abort_eraseEnd (s : State) :
    (abort s).eraseEnd = s.eraseEnd := rfl
@[simp] theorem abort_infoCardDesel (s : State) :
    (abort s).infoCardDesel = s.infoCardDesel := rfl
@[simp] theorem abort_errCmdCrc (s : State) :
    (abort s).errCmdCrc = s.errCmdCrc := rfl
@[simp] theorem abort_errUnhandledCmd (s : State) :
    (abort s).errUnhandledCmd = s.errUnhandledCmd := rfl
@[simp] theorem abort_errOpOutRange (s : State) :
    (abort s).errOpOutRange = s.errOpOutRange := rfl
@[simp] theorem abort_errHostIsSpi (s : State) :
    (abort s).errHostIsSpi = s.errHostIsSpi := rfl
@[simp] theorem abort_mem (s : State) :
    (abort s).mem = s.mem := rfl
@[simp] theorem abort_faults (s : State) :
    (abort s).faults = s.faults := rfl
@[simp] theorem abort_out (s : State) :
    (abort s).out = s.out := rfl
@[simp] theorem abort_inputs (s : State) :
    (abort s).inputs = s.inputs := rfl
@[simp] theorem abort_dat3 (s : State) :
    (abort s).dat3 = s.dat3 := rfl
@[simp] theorem abort_draws (s : State) :
    (abort s).draws = s.draws := rfl
@[simp] theorem abort_portData (s : State) :
    (abort s).portData = s.portData := rfl

/-! ### backToIdle -/

@[simp] theorem backToIdle_cardState (s : State) :
    (backToIdle s).cardState = .idle := rfl
@[simp] theorem backToIdle_rca (s : State) :
    (backToIdle s).rca = 0#16 := rfl
@[simp] theorem backToIdle_appCmd (s : State) :
    (backToIdle s).appCmd = s.appCmd := rfl
@[simp] theorem backToIdle_blkCountPending (s : State) :
    (backToIdle s).blkCountPending = s.blkCountPending := rfl
@[simp] theorem backToIdle_xferBounded (s : State) :
    (backToIdle s).xferBounded = false := rfl
@[simp] theorem backToIdle_rdPhase (s : State) :
    (backToIdle s).rdPhase = .rIdle := rfl
@[simp] theorem backToIdle_rdRegPayload (s : State) :
    (backToIdle s).rdRegPayload = [] := rfl
@[simp] theorem backToIdle_wrPhase (s : State) :
    (backToIdle s).wrPhase = .wIdle := rfl
@[simp] theorem backToIdle_wrFirst (s : State) :
    (backToIdle s).wrFirst = false := rfl
@[simp] theorem backToIdle_wrStopping (s : State) :
    (backToIdle s).wrStopping = false := rfl
@[simp] theorem backToIdle_busWidth (s : State) :
    (backToIdle s).busWidth = .one := rfl
@[simp] theorem backToIdle_hsActive (s : State) :
    (backToIdle s).hsActive = false := rfl
@[simp] theorem backToIdle_stOutOfRange (s : State) :
    (backToIdle s).stOutOfRange = s.stOutOfRange := rfl
@[simp] theorem backToIdle_stComCrcError (s : State) :
    (backToIdle s).stComCrcError = s.stComCrcError := rfl
@[simp] theorem backToIdle_stIllegalCommand (s : State) :
    (backToIdle s).stIllegalCommand = s.stIllegalCommand := rfl
@[simp] theorem backToIdle_blockReadAct (s : State) :
    (backToIdle s).blockReadAct = false := rfl
@[simp] theorem backToIdle_blockReadAddr (s : State) :
    (backToIdle s).blockReadAddr = s.blockReadAddr := rfl
@[simp] theorem backToIdle_blockReadNum (s : State) :
    (backToIdle s).blockReadNum = 0#32 := rfl
@[simp] theorem backToIdle_blockReadStop (s : State) :
    (backToIdle s).blockReadStop = s.blockReadStop := rfl
@[simp] theorem backToIdle_blockWriteAct (s : State) :
    (backToIdle s).blockWriteAct = false := rfl
@[simp] theorem backToIdle_blockWriteAddr (s : State) :
    (backToIdle s).blockWriteAddr = s.blockWriteAddr := rfl
@[simp] theorem backToIdle_blockWriteNum (s : State) :
    (backToIdle s).blockWriteNum = 0#32 := rfl
@[simp] theorem backToIdle_preeraseNum (s : State) :
    (backToIdle s).preeraseNum = s.preeraseNum := rfl
@[simp] theorem backToIdle_eraseStart (s : State) :
    (backToIdle s).eraseStart = s.eraseStart := rfl
@[simp] theorem backToIdle_eraseEnd (s : State) :
    (backToIdle s).eraseEnd = s.eraseEnd := rfl
@[simp] theorem backToIdle_infoCardDesel (s : State) :
    (backToIdle s).infoCardDesel = s.infoCardDesel := rfl
@[simp] theorem backToIdle_errCmdCrc (s : State) :
    (backToIdle s).errCmdCrc = s.errCmdCrc := rfl
@[simp] theorem backToIdle_errUnhandledCmd (s : State) :
    (backToIdle s).errUnhandledCmd = s.errUnhandledCmd := rfl
@[simp] theorem backToIdle_errOpOutRange (s : State) :
    (backToIdle s).errOpOutRange = s.errOpOutRange := rfl
@[simp] theorem backToIdle_errHostIsSpi (s : State) :
    (backToIdle s).errHostIsSpi = s.errHostIsSpi := rfl
@[simp] theorem backToIdle_mem (s : State) :
    (backToIdle s).mem = s.mem := rfl
@[simp] theorem backToIdle_faults (s : State) :
    (backToIdle s).faults = s.faults := rfl
@[simp] theorem backToIdle_out (s : State) :
    (backToIdle s).out = s.out := rfl
@[simp] theorem backToIdle_inputs (s : State) :
    (backToIdle s).inputs = s.inputs := rfl
@[simp] theorem backToIdle_dat3 (s : State) :
    (backToIdle s).dat3 = s.dat3 := rfl
@[simp] theorem backToIdle_draws (s : State) :
    (backToIdle s).draws = s.draws := rfl
@[simp] theorem backToIdle_portData (s : State) :
    (backToIdle s).portData = s.portData := rfl

/-! ### platformReset -/

@[simp] theorem platformReset_cardState (s : State) :
    (platformReset s).cardState = State.reset.cardState := rfl
@[simp] theorem platformReset_rca (s : State) :
    (platformReset s).rca = State.reset.rca := rfl
@[simp] theorem platformReset_appCmd (s : State) :
    (platformReset s).appCmd = State.reset.appCmd := rfl
@[simp] theorem platformReset_blkCountPending (s : State) :
    (platformReset s).blkCountPending = State.reset.blkCountPending := rfl
@[simp] theorem platformReset_xferBounded (s : State) :
    (platformReset s).xferBounded = State.reset.xferBounded := rfl
@[simp] theorem platformReset_rdPhase (s : State) :
    (platformReset s).rdPhase = State.reset.rdPhase := rfl
@[simp] theorem platformReset_rdRegPayload (s : State) :
    (platformReset s).rdRegPayload = State.reset.rdRegPayload := rfl
@[simp] theorem platformReset_wrPhase (s : State) :
    (platformReset s).wrPhase = State.reset.wrPhase := rfl
@[simp] theorem platformReset_wrFirst (s : State) :
    (platformReset s).wrFirst = State.reset.wrFirst := rfl
@[simp] theorem platformReset_wrStopping (s : State) :
    (platformReset s).wrStopping = State.reset.wrStopping := rfl
@[simp] theorem platformReset_busWidth (s : State) :
    (platformReset s).busWidth = State.reset.busWidth := rfl
@[simp] theorem platformReset_hsActive (s : State) :
    (platformReset s).hsActive = State.reset.hsActive := rfl
@[simp] theorem platformReset_stOutOfRange (s : State) :
    (platformReset s).stOutOfRange = State.reset.stOutOfRange := rfl
@[simp] theorem platformReset_stComCrcError (s : State) :
    (platformReset s).stComCrcError = State.reset.stComCrcError := rfl
@[simp] theorem platformReset_stIllegalCommand (s : State) :
    (platformReset s).stIllegalCommand = State.reset.stIllegalCommand := rfl
@[simp] theorem platformReset_blockReadAct (s : State) :
    (platformReset s).blockReadAct = State.reset.blockReadAct := rfl
@[simp] theorem platformReset_blockReadAddr (s : State) :
    (platformReset s).blockReadAddr = State.reset.blockReadAddr := rfl
@[simp] theorem platformReset_blockReadNum (s : State) :
    (platformReset s).blockReadNum = State.reset.blockReadNum := rfl
@[simp] theorem platformReset_blockReadStop (s : State) :
    (platformReset s).blockReadStop = State.reset.blockReadStop := rfl
@[simp] theorem platformReset_blockWriteAct (s : State) :
    (platformReset s).blockWriteAct = State.reset.blockWriteAct := rfl
@[simp] theorem platformReset_blockWriteAddr (s : State) :
    (platformReset s).blockWriteAddr = State.reset.blockWriteAddr := rfl
@[simp] theorem platformReset_blockWriteNum (s : State) :
    (platformReset s).blockWriteNum = State.reset.blockWriteNum := rfl
@[simp] theorem platformReset_preeraseNum (s : State) :
    (platformReset s).preeraseNum = State.reset.preeraseNum := rfl
@[simp] theorem platformReset_eraseStart (s : State) :
    (platformReset s).eraseStart = State.reset.eraseStart := rfl
@[simp] theorem platformReset_eraseEnd (s : State) :
    (platformReset s).eraseEnd = State.reset.eraseEnd := rfl
@[simp] theorem platformReset_infoCardDesel (s : State) :
    (platformReset s).infoCardDesel = State.reset.infoCardDesel := rfl
@[simp] theorem platformReset_errCmdCrc (s : State) :
    (platformReset s).errCmdCrc = State.reset.errCmdCrc := rfl
@[simp] theorem platformReset_errUnhandledCmd (s : State) :
    (platformReset s).errUnhandledCmd = State.reset.errUnhandledCmd := rfl
@[simp] theorem platformReset_errOpOutRange (s : State) :
    (platformReset s).errOpOutRange = State.reset.errOpOutRange := rfl
@[simp] theorem platformReset_errHostIsSpi (s : State) :
    (platformReset s).errHostIsSpi = State.reset.errHostIsSpi := rfl
@[simp] theorem platformReset_mem (s : State) :
    (platformReset s).mem = s.mem := rfl
@[simp] theorem platformReset_faults (s : State) :
    (platformReset s).faults = s.faults := rfl
@[simp] theorem platformReset_out (s : State) :
    (platformReset s).out = s.out := rfl
@[simp] theorem platformReset_inputs (s : State) :
    (platformReset s).inputs = s.inputs := rfl
@[simp] theorem platformReset_dat3 (s : State) :
    (platformReset s).dat3 = s.dat3 := rfl
@[simp] theorem platformReset_draws (s : State) :
    (platformReset s).draws = s.draws := rfl
@[simp] theorem platformReset_portData (s : State) :
    (platformReset s).portData = s.portData := rfl

/-! ### raiseError -/

@[simp] theorem raiseError_cardState (e : ErrorClass) (s : State) :
    (raiseError e s).cardState = s.cardState := by
  cases e <;> rfl
@[simp] theorem raiseError_rca (e : ErrorClass) (s : State) :
    (raiseError e s).rca = s.rca := by
  cases e <;> rfl
@[simp] theorem raiseError_appCmd (e : ErrorClass) (s : State) :
    (raiseError e s).appCmd = s.appCmd := by
  cases e <;> rfl
@[simp] theorem raiseError_blkCountPending (e : ErrorClass) (s : State) :
    (raiseError e s).blkCountPending = s.blkCountPending := by
  cases e <;> rfl
@[simp] theorem raiseError_xferBounded (e : ErrorClass) (s : State) :
    (raiseError e s).xferBounded = s.xferBounded := by
  cases e <;> rfl
@[simp] theorem raiseError_rdPhase (e : ErrorClass) (s : State) :
    (raiseError e s).rdPhase = s.rdPhase := by
  cases e <;> rfl
@[simp] theorem raiseError_rdRegPayload (e : ErrorClass) (s : State) :
    (raiseError e s).rdRegPayload = s.rdRegPayload := by
  cases e <;> rfl
@[simp] theorem raiseError_wrPhase (e : ErrorClass) (s : State) :
    (raiseError e s).wrPhase = s.wrPhase := by
  cases e <;> rfl
@[simp] theorem raiseError_wrFirst (e : ErrorClass) (s : State) :
    (raiseError e s).wrFirst = s.wrFirst := by
  cases e <;> rfl
@[simp] theorem raiseError_wrStopping (e : ErrorClass) (s : State) :
    (raiseError e s).wrStopping = s.wrStopping := by
  cases e <;> rfl
@[simp] theorem raiseError_busWidth (e : ErrorClass) (s : State) :
    (raiseError e s).busWidth = s.busWidth := by
  cases e <;> rfl
@[simp] theorem raiseError_hsActive (e : ErrorClass) (s : State) :
    (raiseError e s).hsActive = s.hsActive := by
  cases e <;> rfl
@[simp] theorem raiseError_stOutOfRange (e : ErrorClass) (s : State) :
    (raiseError e s).stOutOfRange = s.stOutOfRange := by
  cases e <;> rfl
@[simp] theorem raiseError_stComCrcError (e : ErrorClass) (s : State) :
    (raiseError e s).stComCrcError = s.stComCrcError := by
  cases e <;> rfl
@[simp] theorem raiseError_stIllegalCommand (e : ErrorClass) (s : State) :
    (raiseError e s).stIllegalCommand = s.stIllegalCommand := by
  cases e <;> rfl
@[simp] theorem raiseError_blockReadAct (e : ErrorClass) (s : State) :
    (raiseError e s).blockReadAct = s.blockReadAct := by
  cases e <;> rfl
@[simp] theorem raiseError_blockReadAddr (e : ErrorClass) (s : State) :
    (raiseError e s).blockReadAddr = s.blockReadAddr := by
  cases e <;> rfl
@[simp] theorem raiseError_blockReadNum (e : ErrorClass) (s : State) :
    (raiseError e s).blockReadNum = s.blockReadNum := by
  cases e <;> rfl
@[simp] theorem raiseError_blockReadStop (e : ErrorClass) (s : State) :
    (raiseError e s).blockReadStop = s.blockReadStop := by
  cases e <;> rfl
@[simp] theorem raiseError_blockWriteAct (e : ErrorClass) (s : State) :
    (raiseError e s).blockWriteAct = s.blockWriteAct := by
  cases e <;> rfl
@[simp] theorem raiseError_blockWriteAddr (e : ErrorClass) (s : State) :
    (raiseError e s).blockWriteAddr = s.blockWriteAddr := by
  cases e <;> rfl
@[simp] theorem raiseError_blockWriteNum (e : ErrorClass) (s : State) :
    (raiseError e s).blockWriteNum = s.blockWriteNum := by
  cases e <;> rfl
@[simp] theorem raiseError_preeraseNum (e : ErrorClass) (s : State) :
    (raiseError e s).preeraseNum = s.preeraseNum := by
  cases e <;> rfl
@[simp] theorem raiseError_eraseStart (e : ErrorClass) (s : State) :
    (raiseError e s).eraseStart = s.eraseStart := by
  cases e <;> rfl
@[simp] theorem raiseError_eraseEnd (e : ErrorClass) (s : State) :
    (raiseError e s).eraseEnd = s.eraseEnd := by
  cases e <;> rfl
@[simp] theorem raiseError_infoCardDesel (e : ErrorClass) (s : State) :
    (raiseError e s).infoCardDesel = (s.infoCardDesel || e = .deselection) := by
  cases e <;> simp [raiseError]
@[simp] theorem raiseError_errCmdCrc (e : ErrorClass) (s : State) :
    (raiseError e s).errCmdCrc = (s.errCmdCrc || e = .protocolFraming) := by
  cases e <;> simp [raiseError]
@[simp] theorem raiseError_errUnhandledCmd (e : ErrorClass) (s : State) :
    (raiseError e s).errUnhandledCmd = (s.errUnhandledCmd || e = .unsupportedCommand) := by
  cases e <;> simp [raiseError]
@[simp] theorem raiseError_errOpOutRange (e : ErrorClass) (s : State) :
    (raiseError e s).errOpOutRange = (s.errOpOutRange || e = .outOfRangeAddress) := by
  cases e <;> simp [raiseError]
@[simp] theorem raiseError_errHostIsSpi (e : ErrorClass) (s : State) :
    (raiseError e s).errHostIsSpi = (s.errHostIsSpi || e = .modeViolation) := by
  cases e <;> simp [raiseError]
@[simp] theorem raiseError_mem (e : ErrorClass) (s : State) :
    (raiseError e s).mem = s.mem := by
  cases e <;> rfl
@[simp] theorem raiseError_faults (e : ErrorClass) (s : State) :
    (raiseError e s).faults = s.faults := by
  cases e <;> rfl
@[simp] theorem raiseError_out (e : ErrorClass) (s : State) :
    (raiseError e s).out = s.out := by
  cases e <;> rfl
@[simp] theorem raiseError_inputs (e : ErrorClass) (s : State) :
    (raiseError e s).inputs = s.inputs := by
  cases e <;> rfl
@[simp] theorem raiseError_dat3 (e : ErrorClass) (s : State) :
    (raiseError e s).dat3 = s.dat3 := by
  cases e <;> rfl
@[simp] theorem raiseError_draws (e : ErrorClass) (s : State) :
    (raiseError e s).draws = s.draws := by
  cases e <;> rfl
@[simp] theorem raiseError_portData (e : ErrorClass) (s : State) :
    (raiseError e s).portData = s.portData := by
  cases e <;> rfl

/-! ### recordFault -/

@[simp] theorem recordFault_cardState (f : Fault) (s : State) :
    (recordFault f s).cardState = s.cardState := by
  cases f <;> rfl
@[simp] theorem recordFault_rca (f : Fault) (s : State) :
    (recordFault f s).rca = s.rca := by
  cases f <;> rfl
@[simp] theorem recordFault_appCmd (f : Fault) (s : State) :
    (recordFault f s).appCmd = s.appCmd := by
  cases f <;> rfl
@[simp] theorem recordFault_blkCountPending (f : Fault) (s : State) :
    (recordFault f s).blkCountPending = s.blkCountPending := by
  cases f <;> rfl
@[simp] theorem recordFault_xferBounded (f : Fault) (s : State) :
    (recordFault f s).xferBounded = s.xferBounded := by
  cases f <;> rfl
@[simp] theorem recordFault_rdPhase (f : Fault) (s : State) :
    (recordFault f s).rdPhase = s.rdPhase := by
  cases f <;> rfl
@[simp] theorem recordFault_rdRegPayload (f : Fault) (s : State) :
    (recordFault f s).rdRegPayload = s.rdRegPayload := by
  cases f <;> rfl
@[simp] theorem recordFault_wrPhase (f : Fault) (s : State) :
    (recordFault f s).wrPhase = s.wrPhase := by
  cases f <;> rfl
@[simp] theorem recordFault_wrFirst (f : Fault) (s : State) :
    (recordFault f s).wrFirst = s.wrFirst := by
  cases f <;> rfl
@[simp] theorem recordFault_wrStopping (f : Fault) (s : State) :
    (recordFault f s).wrStopping = s.wrStopping := by
  cases f <;> rfl
@[simp] theorem recordFault_busWidth (f : Fault) (s : State) :
    (recordFault f s).busWidth = s.busWidth := by
  cases f <;> rfl
@[simp] theorem recordFault_hsActive (f : Fault) (s : State) :
    (recordFault f s).hsActive = s.hsActive := by
  cases f <;> rfl
@[simp] theorem recordFault_stOutOfRange (f : Fault) (s : State) :
    (recordFault f s).stOutOfRange = s.stOutOfRange := by
  cases f <;> rfl
@[simp] theorem recordFault_stComCrcError (f : Fault) (s : State) :
    (recordFault f s).stComCrcError = s.stComCrcError := by
  cases f <;> rfl
@[simp] theorem recordFault_stIllegalCommand (f : Fault) (s : State) :
    (recordFault f s).stIllegalCommand = s.stIllegalCommand := by
  cases f <;> rfl
@[simp] theorem recordFault_blockReadAct (f : Fault) (s : State) :
    (recordFault f s).blockReadAct = s.blockReadAct := by
  cases f <;> rfl
@[simp] theorem recordFault_blockReadAddr (f : Fault) (s : State) :
    (recordFault f s).blockReadAddr = s.blockReadAddr := by
  cases f <;> rfl
@[simp] theorem recordFault_blockReadNum (f : Fault) (s : State) :
    (recordFault f s).blockReadNum = s.blockReadNum := by
  cases f <;> rfl
@[simp] theorem recordFault_blockReadStop (f : Fault) (s : State) :
    (recordFault f s).blockReadStop = s.blockReadStop := by
  cases f <;> rfl
@[simp] theorem recordFault_blockWriteAct (f : Fault) (s : State) :
    (recordFault f s).blockWriteAct = s.blockWriteAct := by
  cases f <;> rfl
@[simp] theorem recordFault_blockWriteAddr (f : Fault) (s : State) :
    (recordFault f s).blockWriteAddr = s.blockWriteAddr := by
  cases f <;> rfl
@[simp] theorem recordFault_blockWriteNum (f : Fault) (s : State) :
    (recordFault f s).blockWriteNum = s.blockWriteNum := by
  cases f <;> rfl
@[simp] theorem recordFault_preeraseNum (f : Fault) (s : State) :
    (recordFault f s).preeraseNum = s.preeraseNum := by
  cases f <;> rfl
@[simp] theorem recordFault_eraseStart (f : Fault) (s : State) :
    (recordFault f s).eraseStart = s.eraseStart := by
  cases f <;> rfl
@[simp] theorem recordFault_eraseEnd (f : Fault) (s : State) :
    (recordFault f s).eraseEnd = s.eraseEnd := by
  cases f <;> rfl
@[simp] theorem recordFault_infoCardDesel (f : Fault) (s : State) :
    (recordFault f s).infoCardDesel = s.infoCardDesel := by
  cases f <;> rfl
@[simp] theorem recordFault_errCmdCrc (f : Fault) (s : State) :
    (recordFault f s).errCmdCrc = s.errCmdCrc := by
  cases f <;> rfl
@[simp] theorem recordFault_errUnhandledCmd (f : Fault) (s : State) :
    (recordFault f s).errUnhandledCmd = s.errUnhandledCmd := by
  cases f <;> rfl
@[simp] theorem recordFault_errOpOutRange (f : Fault) (s : State) :
    (recordFault f s).errOpOutRange = s.errOpOutRange := by
  cases f <;> rfl
@[simp] theorem recordFault_errHostIsSpi (f : Fault) (s : State) :
    (recordFault f s).errHostIsSpi = s.errHostIsSpi := by
  cases f <;> rfl
@[simp] theorem recordFault_mem (f : Fault) (s : State) :
    (recordFault f s).mem = s.mem := by
  cases f <;> rfl
@[simp] theorem recordFault_faults (f : Fault) (s : State) :
    (recordFault f s).faults =
      { rbRace := s.faults.rbRace || f = .rbRace, wbRace := s.faults.wbRace || f = .wbRace } := by
  cases f <;> simp [recordFault]
@[simp] theorem recordFault_out (f : Fault) (s : State) :
    (recordFault f s).out = s.out := by
  cases f <;> rfl
@[simp] theorem recordFault_inputs (f : Fault) (s : State) :
    (recordFault f s).inputs = s.inputs := by
  cases f <;> rfl
@[simp] theorem recordFault_dat3 (f : Fault) (s : State) :
    (recordFault f s).dat3 = s.dat3 := by
  cases f <;> rfl
@[simp] theorem recordFault_draws (f : Fault) (s : State) :
    (recordFault f s).draws = s.draws := by
  cases f <;> rfl
@[simp] theorem recordFault_portData (f : Fault) (s : State) :
    (recordFault f s).portData = s.portData := by
  cases f <;> rfl

end Sys2Proof.Machine
end

