-- ==== Sys2Proof/Laws/Ops.lean ====
section
/-! SUPPORT. What each shared operation can do, said once: the dispatch of a command, the transfer
starts, the reactions of the sequencer and of the consumer port. -/

namespace Sys2Proof.Machine

/-! ## Emission -/

@[simp] theorem respond_eq_emit (r : Response) (s : State) :
    respond r s = emit (.response r) s := rfl

@[simp] theorem sendData_eq_emit (bytes : List Byte) (s : State) :
    sendData bytes s = emit (.data bytes (dataCrc bytes s.busWidth)) s := rfl

/-- The card status reads only five fields of the state. -/
theorem cardStatus_congr {p q : State} (oor app : Bool) (h1 : p.stOutOfRange = q.stOutOfRange)
    (h2 : p.stComCrcError = q.stComCrcError) (h3 : p.stIllegalCommand = q.stIllegalCommand)
    (h4 : p.cardState = q.cardState) (h5 : p.blockWriteAct = q.blockWriteAct) :
    cardStatus p oor app = cardStatus q oor app := by
  simp [cardStatus, h1, h2, h3, h4, h5]

/-- Clearing `app_cmd` does not change the status a command answers with (R111, R143). -/
@[simp] theorem cardStatus_beginFrame (s : State) (oor app : Bool) :
    cardStatus (beginFrame s) oor app = cardStatus s oor app := rfl

/-! ## Ranges -/

theorem outOfRange_iff (a : Word32) : outOfRange a = true ↔ Config.capacityBlocks ≤ a.toNat := by
  simp [outOfRange]

theorem outOfRange_eq_false_iff (a : Word32) :
    outOfRange a = false ↔ a.toNat < Config.capacityBlocks := by
  simp [outOfRange]

theorem nextOutOfRange_iff (a : Word32) :
    nextOutOfRange a = true ↔ Config.capacityBlocks ≤ a.toNat + 1 := by
  simp [nextOutOfRange]

/-- The card has at least one block (R11). -/
theorem capacityBlocks_pos : 0 < Config.capacityBlocks := Nat.succ_pos _

/-- The card has at most 2^32 blocks (R11). -/
theorem capacityBlocks_le : Config.capacityBlocks ≤ 2 ^ 32 := Config.capacityRaw.isLt

/-- The published RCA is never 0 (R11). -/
theorem rcaValue_ne_zero : Config.rcaValue ≠ 0#16 := by
  unfold Config.rcaValue
  split
  · decide
  · assumption

/-- An address whose successor is in range advances without wrapping (R53, R266). -/
theorem toNat_succ_of_inRange (a : Word32) (h : nextOutOfRange a = false) :
    (a + 1#32).toNat = a.toNat + 1 := by
  have hc := capacityBlocks_le
  have : a.toNat + 1 < 2 ^ 32 := by
    simp only [nextOutOfRange, decide_eq_false_iff_not] at h
    omega
  simp only [BitVec.toNat_add, BitVec.toNat_ofNat]
  omega

/-! ## Dispatch (R142, R148, R150) -/

theorem dispatch_legal {legal : List CardState} {s : State} (rule : State → State)
    (h : s.cardState ∈ legal) : dispatch legal rule s = rule (beginFrame s) := by
  simp [dispatch, h]

theorem dispatch_illegal {legal : List CardState} {s : State} (rule : State → State)
    (h : s.cardState ∉ legal) : dispatch legal rule s = rejectIllegal (beginFrame s) := by
  simp [dispatch, h]

theorem dispatch_cases (legal : List CardState) (rule : State → State) (s : State) :
    (s.cardState ∈ legal ∧ dispatch legal rule s = rule (beginFrame s)) ∨
    (s.cardState ∉ legal ∧ dispatch legal rule s = rejectIllegal (beginFrame s)) := by
  by_cases h : s.cardState ∈ legal
  · exact .inl ⟨h, dispatch_legal rule h⟩
  · exact .inr ⟨h, dispatch_illegal rule h⟩

theorem ifAddressed_cases (rca : Rca) (rule : State → State) (p : State) :
    (rca = p.rca ∧ ifAddressed rca rule p = rule p) ∨
    (rca ≠ p.rca ∧ ifAddressed rca rule p = p) := by
  by_cases h : rca = p.rca
  · exact .inl ⟨h, by simp [ifAddressed, h]⟩
  · exact .inr ⟨h, by simp [ifAddressed, h]⟩

/-! ## Transfer starts (R250 to R254) -/

theorem startRead_cases (index : BitVec 6) (count : Bool × Word32) (a : Word32) (p : State) :
    (Config.capacityBlocks ≤ a.toNat ∧ startRead index count a p =
      raiseError .outOfRangeAddress (respond (r1 index (cardStatus p true false)) p)) ∨
    (a.toNat < Config.capacityBlocks ∧ startRead index count a p =
      { respond (r1 index (cardStatus p false false)) p with
        xferBounded := count.1, blockReadNum := count.2, blockReadAddr := a,
        blockReadStop := false, blockReadAct := true, rdPhase := .waitGo,
        cardState := .sendData }) := by
  by_cases h : outOfRange a = true
  · exact .inl ⟨(outOfRange_iff a).1 h, by simp only [startRead, h, if_true]⟩
  · have hf : outOfRange a = false := by simpa using h
    exact .inr ⟨(outOfRange_eq_false_iff a).1 hf, by simp only [startRead, hf]; rfl⟩

theorem startWrite_cases (index : BitVec 6) (count : Bool × Word32) (a : Word32) (p : State) :
    (Config.capacityBlocks ≤ a.toNat ∧ startWrite index count a p =
      raiseError .outOfRangeAddress (respond (r1 index (cardStatus p true false)) p)) ∨
    (a.toNat < Config.capacityBlocks ∧ startWrite index count a p =
      { respond (r1 index (cardStatus p false false)) p with
        xferBounded := count.1, blockWriteNum := count.2, blockWriteAddr := a,
        wrFirst := true, wrStopping := false, blockWriteAct := false,
        wrPhase := .waitData, cardState := .receiveData }) := by
  by_cases h : outOfRange a = true
  · exact .inl ⟨(outOfRange_iff a).1 h, by simp only [startWrite, h, if_true]⟩
  · have hf : outOfRange a = false := by simpa using h
    exact .inr ⟨(outOfRange_eq_false_iff a).1 hf, by simp only [startWrite, hf]; rfl⟩

/-! ## The read sequencer (R264 to R269) -/

theorem consumerGo_cases (s : State) :
    (s.rdPhase = .waitGo ∧ consumerGo s =
      { s with
        blockReadAct := false
        blockReadNum := if s.xferBounded then s.blockReadNum - 1#32 else s.blockReadNum
        rdPhase := .sending }) ∨
    (s.rdPhase ≠ .waitGo ∧ consumerGo s = s) := by
  by_cases h : s.rdPhase = .waitGo
  · exact .inl ⟨h, by simp [consumerGo, h]⟩
  · exact .inr ⟨h, by simp [consumerGo, h]⟩

theorem readAdvance_cases (s : State) :
    (Config.capacityBlocks ≤ s.blockReadAddr.toNat + 1 ∧ readAdvance s =
      { s with errOpOutRange := true, stOutOfRange := true, rdPhase := .rHalted }) ∨
    (s.blockReadAddr.toNat + 1 < Config.capacityBlocks ∧ readAdvance s =
      { s with
        blockReadAddr := s.blockReadAddr + 1#32, blockReadAct := true, rdPhase := .waitGo }) := by
  by_cases h : nextOutOfRange s.blockReadAddr = true
  · exact .inl ⟨(nextOutOfRange_iff _).1 h, by simp only [readAdvance, h, if_true, raiseError]⟩
  · have hf : nextOutOfRange s.blockReadAddr = false := by simpa using h
    refine .inr ⟨?_, by simp only [readAdvance, hf]; rfl⟩
    simpa [nextOutOfRange] using hf

/-- The five things a host data read can do. -/
theorem hostDataOut_cases (s : State) :
    (s.rdPhase = .sending ∧ s.xferBounded = true ∧ s.blockReadNum = 0#32 ∧
      hostDataOut s = { sendBuffer s with rdPhase := .rIdle, cardState := .transfer }) ∨
    (s.rdPhase = .sending ∧ ¬(s.xferBounded = true ∧ s.blockReadNum = 0#32) ∧
      hostDataOut s = readAdvance (sendBuffer s)) ∨
    (s.rdPhase = .sendingReg ∧ hostDataOut s = sendRegister s) ∨
    (s.rdPhase ≠ .sending ∧ s.rdPhase ≠ .sendingReg ∧ hostDataOut s = s) := by
  cases h : s.rdPhase with
  | sending =>
    by_cases hb : s.xferBounded = true ∧ s.blockReadNum = 0#32
    · exact .inl ⟨rfl, hb.1, hb.2, by simp [hostDataOut, h, hb]⟩
    · exact .inr (.inl ⟨rfl, hb, by simp only [hostDataOut, h, hb, if_false]⟩)
  | sendingReg => exact .inr (.inr (.inl ⟨rfl, by simp [hostDataOut, h]⟩))
  | rIdle => exact .inr (.inr (.inr ⟨by simp, by simp, by simp [hostDataOut, h]⟩))
  | waitGo => exact .inr (.inr (.inr ⟨by simp, by simp, by simp [hostDataOut, h]⟩))
  | rHalted => exact .inr (.inr (.inr ⟨by simp, by simp, by simp [hostDataOut, h]⟩))

/-! ## The write sequencer (R276 to R281) -/

theorem goodBlock_iff (bytes : List Byte) (crcs : List (BitVec 16)) (w : BusWidth) :
    goodBlock bytes crcs w = true ↔ bytes.length = 512 ∧ crcs = dataCrc bytes w := by
  simp [goodBlock]

theorem hostDataIn_cases (bytes : List Byte) (crcs : List (BitVec 16)) (s : State) :
    (s.wrPhase = .waitData ∧ goodBlock bytes crcs s.busWidth = true ∧
      hostDataIn bytes crcs s = landBlock bytes s) ∨
    (s.wrPhase = .waitData ∧ goodBlock bytes crcs s.busWidth = false ∧
      hostDataIn bytes crcs s = rejectBlock s) ∨
    (s.wrPhase ≠ .waitData ∧ hostDataIn bytes crcs s = s) := by
  by_cases h : s.wrPhase = .waitData
  · cases hg : goodBlock bytes crcs s.busWidth with
    | true => exact .inl ⟨h, rfl, by simp [hostDataIn, h, hg]⟩
    | false => exact .inr (.inl ⟨h, rfl, by simp [hostDataIn, h, hg]⟩)
  · exact .inr (.inr ⟨h, by simp [hostDataIn, h]⟩)

theorem writeAdvanceCheck_cases (s : State) :
    (Config.capacityBlocks ≤ s.blockWriteAddr.toNat + 1 ∧ writeAdvanceCheck s =
      { s with errOpOutRange := true, stOutOfRange := true, wrPhase := .wHalted }) ∨
    (s.blockWriteAddr.toNat + 1 < Config.capacityBlocks ∧ writeAdvanceCheck s =
      { s with wrPhase := .waitData }) := by
  by_cases h : nextOutOfRange s.blockWriteAddr = true
  · exact .inl ⟨(nextOutOfRange_iff _).1 h,
      by simp only [writeAdvanceCheck, h, if_true, raiseError]⟩
  · have hf : nextOutOfRange s.blockWriteAddr = false := by simpa using h
    refine .inr ⟨?_, by simp only [writeAdvanceCheck, hf]; rfl⟩
    simpa [nextOutOfRange] using hf

/-- Whether a serviced write request was the transfer's last (R280). -/
theorem consumerDone_cases (s : State) :
    (s.wrPhase = .waitDone ∧
      (s.xferBounded = true ∧ s.blockWriteNum - 1#32 = 0#32 ∨ s.wrStopping = true) ∧
      consumerDone s = endWrite (serviceWrite s)) ∨
    (s.wrPhase = .waitDone ∧
      ¬(s.xferBounded = true ∧ s.blockWriteNum - 1#32 = 0#32 ∨ s.wrStopping = true) ∧
      consumerDone s = writeAdvanceCheck (serviceWrite s)) ∨
    (s.wrPhase ≠ .waitDone ∧ consumerDone s = s) := by
  by_cases h : s.wrPhase = .waitDone
  · have hiff : (((serviceWrite s).xferBounded = true ∧ (serviceWrite s).blockWriteNum = 0#32) ∨
        (serviceWrite s).wrStopping = true) ↔
        (s.xferBounded = true ∧ s.blockWriteNum - 1#32 = 0#32 ∨ s.wrStopping = true) := by
      cases hb : s.xferBounded <;> simp [serviceWrite, hb]
    by_cases he : (((serviceWrite s).xferBounded = true ∧ (serviceWrite s).blockWriteNum = 0#32) ∨
        (serviceWrite s).wrStopping = true)
    · exact .inl ⟨h, hiff.1 he, by simp only [consumerDone, h, if_true, if_pos he]⟩
    · exact .inr (.inl ⟨h, fun hn => he (hiff.2 hn),
        by simp only [consumerDone, h, if_true, if_neg he]⟩)
  · exact .inr (.inr ⟨h, by simp [consumerDone, h]⟩)

/-! ## The consumer port (R79, R80) -/

theorem consumerBufRead_cases (a : BitVec 8) (s : State) :
    (∃ w, portWord a s = some w ∧ consumerBufRead a s = { s with portData := w }) ∨
    (portWord a s = none ∧ consumerBufRead a s =
      { s with portData := Config.freeWord s.draws, draws := s.draws + 1 }) := by
  cases h : portWord a s with
  | some w => exact .inl ⟨w, rfl, by simp [consumerBufRead, h]⟩
  | none => exact .inr ⟨rfl, by simp [consumerBufRead, h]⟩

theorem portIndex_lt (a : BitVec 8) : portIndex a < 128 := (a.extractLsb' 0 7).isLt

/-- A consumer write changes the buffers and the fault record, and nothing else. -/
theorem consumerBufWrite_eq (a : BitVec 8) (v : Word32) (s : State) :
    ∃ g, consumerBufWrite a v s =
      { s with mem := writeWord s.mem (portBuf a) (portIndex a) v, faults := g } ∧
      (writeRace (portBuf a) s = none → g = s.faults) := by
  cases h : writeRace (portBuf a) s with
  | none => exact ⟨s.faults, by simp [consumerBufWrite, h], fun _ => rfl⟩
  | some f => exact ⟨(recordFault f s).faults, by cases f <;> simp [consumerBufWrite, h, recordFault],
      fun hn => by simp at hn⟩

/-! ## Events -/

theorem step_nil {s : State} (h : s.inputs = []) : step s = .next s := by
  simp [step, takeEvent, h]

theorem step_cons {s : State} {e : Event} {rest : List Event} (h : s.inputs = e :: rest) :
    step s = react e { s with inputs := rest } := by
  simp [step, takeEvent, h]

/-- The four outcomes of a command frame (R140, R142). -/
theorem hostCommand_cases (f : Frame) (d : Bool) (s : State) :
    (decode s.appCmd f = .notSurfaced ∧ hostCommand f d s = .next s) ∨
    (decode s.appCmd f = .crcFailure ∧ hostCommand f d s = .next (rejectCrc (beginFrame s))) ∨
    (decode s.appCmd f = .unknown ∧ hostCommand f d s = .next (rejectIllegal (beginFrame s))) ∨
    (∃ i, decode s.appCmd f = .command i ∧ hostCommand f d s = exec i { s with dat3 := d }) := by
  cases h : decode s.appCmd f with
  | notSurfaced => exact .inl ⟨rfl, by simp [hostCommand, h]⟩
  | crcFailure => exact .inr (.inl ⟨rfl, by simp [hostCommand, h]⟩)
  | unknown => exact .inr (.inr (.inl ⟨rfl, by simp [hostCommand, h]⟩))
  | command i => exact .inr (.inr (.inr ⟨i, rfl, by simp [hostCommand, h]⟩))

end Sys2Proof.Machine
end

