-- ==== Sys2Proof/Laws/PerInstr.lean ====
section
/-! SUPPORT. The family EncodeFraming: the frame of a command is a host command frame with a good
CRC7 and end bit, and carries the command's index (30_encoding.md rules R90, R93, R128). -/

namespace Sys2Proof.Laws.EncodeFraming

/-- The encoder's frame is surfaced, passes the CRC test and carries the index. -/
def Statement (i : Instr) : Prop :=
  surfaced (encode i) = true ∧ crcValid (encode i) = true ∧ frameIndex (encode i) = i.index

/-- A frame of `encodeFrame` has start bit 0, transmission bit 1 and the index it was given. -/
theorem framing (index : BitVec 6) (arg : BitVec 32) :
    surfaced (encodeFrame index arg) = true ∧ crcValid (encodeFrame index arg) = true ∧
      frameIndex (encodeFrame index arg) = index := by
  have head : ∀ k < 40, (encodeFrame index arg).getLsbD (8 + k) =
      (0b01#2 ++ index ++ arg : BitVec 40).getLsbD k :=
    fun k hk => getLsbD_sealFrame_head _ k hk
  refine ⟨?_, crcValid_sealFrame _, ?_⟩
  · have h47 := head 39 (by decide)
    have h46 := head 38 (by decide)
    simp only [surfaced, Bool.and_eq_true, beq_iff_eq]
    constructor
    · apply BitVec.eq_of_getLsbD_eq
      intro i hi
      obtain rfl : i = 0 := by omega
      simp only [BitVec.getLsbD_append] at h47
      simpa [frameStart] using h47
    · apply BitVec.eq_of_getLsbD_eq
      intro i hi
      obtain rfl : i = 0 := by omega
      simp only [BitVec.getLsbD_append] at h46
      simpa [frameTrans] using h46
  · apply BitVec.eq_of_getLsbD_eq
    intro i hi
    have h := head (32 + i) (by omega)
    simp only [BitVec.getLsbD_append] at h
    simpa [frameIndex, hi, show 8 + (32 + i) = 40 + i by omega] using h

theorem goIdleState (a : BitVec 32) :
    Statement (.goIdleState a) := framing _ _

theorem allSendCid (a : BitVec 32) :
    Statement (.allSendCid a) := framing _ _

theorem sendRelativeAddr (a : BitVec 32) :
    Statement (.sendRelativeAddr a) := framing _ _

theorem switchFunc (a : BitVec 1) (b : BitVec 27) (c : BitVec 4) :
    Statement (.switchFunc a b c) := framing _ _

theorem selectDeselectCard (a : BitVec 16) (b : BitVec 16) :
    Statement (.selectDeselectCard a b) := framing _ _

theorem sendIfCond (a : BitVec 20) (b : BitVec 4) (c : BitVec 8) :
    Statement (.sendIfCond a b c) := framing _ _

theorem sendCsd (a : BitVec 16) (b : BitVec 16) :
    Statement (.sendCsd a b) := framing _ _

theorem sendCid (a : BitVec 16) (b : BitVec 16) :
    Statement (.sendCid a b) := framing _ _

theorem stopTransmission (a : BitVec 32) :
    Statement (.stopTransmission a) := framing _ _

theorem sendStatus (a : BitVec 16) (b : BitVec 16) :
    Statement (.sendStatus a b) := framing _ _

theorem setBlocklen (a : BitVec 32) :
    Statement (.setBlocklen a) := framing _ _

theorem readSingleBlock (a : BitVec 32) :
    Statement (.readSingleBlock a) := framing _ _

theorem readMultipleBlock (a : BitVec 32) :
    Statement (.readMultipleBlock a) := framing _ _

theorem setBlockCount (a : BitVec 32) :
    Statement (.setBlockCount a) := framing _ _

theorem writeBlock (a : BitVec 32) :
    Statement (.writeBlock a) := framing _ _

theorem writeMultipleBlock (a : BitVec 32) :
    Statement (.writeMultipleBlock a) := framing _ _

theorem eraseWrBlkStart (a : BitVec 32) :
    Statement (.eraseWrBlkStart a) := framing _ _

theorem eraseWrBlkEnd (a : BitVec 32) :
    Statement (.eraseWrBlkEnd a) := framing _ _

theorem erase (a : BitVec 32) :
    Statement (.erase a) := framing _ _

theorem appCmd (a : BitVec 16) (b : BitVec 16) :
    Statement (.appCmd a b) := framing _ _

theorem setBusWidth (a : BitVec 30) (b : BitVec 2) :
    Statement (.setBusWidth a b) := framing _ _

theorem setWrBlkEraseCount (a : BitVec 9) (b : BitVec 23) :
    Statement (.setWrBlkEraseCount a b) := framing _ _

theorem sdSendOpCond (a : BitVec 1) (b : BitVec 1) (c : BitVec 6) (d : BitVec 24) :
    Statement (.sdSendOpCond a b c d) := framing _ _

theorem sendScr (a : BitVec 32) :
    Statement (.sendScr a) := framing _ _

end Sys2Proof.Laws.EncodeFraming
end

