-- ==== Sys2Proof/Tests/Slice0.lean ====
section
/-! SUPPORT. The model's own tests.  Expected values are those of 95_test_vectors.md (the section is
named at each group); frames are written out bit by bit from 30_encoding.md rule R91.  The last
part shows that the hypotheses of every statement can be met. -/

namespace Sys2Proof.Tests

set_option Elab.async false

open Sys2Proof Sys2Proof.Machine Sys2Proof.Statements

/-! ## Small states -/

/-- The core after reset, but in card state `c` with the RCA of the test configuration. -/
def inState (c : CardState) : State := { State.reset with cardState := c, rca := 0x1234#16 }

/-- The card of the test configuration, selected. -/
def selected : State := inState .transfer

/-- A read whose request is pending, one block of a bounded transfer left. -/
def waitingRead : State :=
  { inState .sendData with
    rdPhase := .waitGo, blockReadAct := true, xferBounded := true, blockReadNum := 1#32 }

/-- A write that waits for the host's block, one block of a bounded transfer left. -/
def waitingWrite : State :=
  { inState .receiveData with
    wrPhase := .waitData, wrFirst := true, xferBounded := true, blockWriteNum := 1#32 }

/-- A write whose landed block waits for the consumer. -/
def landedWrite : State :=
  { waitingWrite with
    wrPhase := .waitDone, wrFirst := false, blockWriteAct := true, cardState := .programming }

/-- A register block ready for the host. -/
def offered : State :=
  { inState .sendData with rdPhase := .sendingReg, rdRegPayload := List.replicate 8 0xA5#8 }

/-- Whether an outcome is a next state with property `p`. -/
def yields (o : Host.Outcome State Fault Refusal) (p : State → Bool) : Bool :=
  match o with
  | .next t => p t
  | .fault _ => false
  | .refused _ => false

/-! ## WellFormed: each check refuses an ill-formed term (R115, R119) -/

theorem test_short_block_is_ill_formed :
    (Event.hostDataIn (List.replicate 511 0#8) [0#16]).wellFormed = false := by decide +kernel

theorem test_three_line_block_is_ill_formed :
    (Event.hostDataIn (List.replicate 512 0#8) [0#16, 0#16, 0#16]).wellFormed = false := by
  decide +kernel

theorem test_four_line_block_is_well_formed :
    (Event.hostDataIn (List.replicate 512 0#8) [0#16, 0#16, 0#16, 0#16]).wellFormed = true := by
  decide +kernel

theorem test_every_command_is_well_formed : (Instr.sendScr 0xFFFFFFFF#32).wellFormed = true := by
  decide

/-! ## Frames (section 2.1): start 0, transmission 1, index 6, argument 32, CRC7, end 1 -/

theorem test_decode_cmd0_bits :
    decode false 0b01_000000_00000000000000000000000000000000_1001010_1#48 =
      .command (.goIdleState 0#32) := by decide +kernel

theorem test_decode_cmd8_bits :
    decode false 0b01_001000_00000000000000000000000110101010_1000011_1#48 =
      .command (.sendIfCond 0#20 0b0001#4 0xAA#8) := by decide +kernel

theorem test_decode_cmd17_bits :
    decode false 0b01_010001_00000000000000000000000001100100_1011000_1#48 =
      .command (.readSingleBlock 100#32) := by decide +kernel

theorem test_decode_acmd6_bits :
    decode true 0b01_000110_00000000000000000000000000000010_1100101_1#48 =
      .command (.setBusWidth 0#30 0b10#2) := by decide +kernel

theorem test_decode_identification :
    decode false 0x42000000004D#48 = .command (.allSendCid 0#32) ∧
    decode false 0x430000000021#48 = .command (.sendRelativeAddr 0#32) ∧
    decode false 0x471234000059#48 = .command (.selectDeselectCard 0x1234#16 0#16) ∧
    decode false 0x491234000075#48 = .command (.sendCsd 0x1234#16 0#16) ∧
    decode false 0x4A12340000C1#48 = .command (.sendCid 0x1234#16 0#16) ∧
    decode false 0x4D12340000D7#48 = .command (.sendStatus 0x1234#16 0#16) ∧
    decode false 0x7712340000BF#48 = .command (.appCmd 0x1234#16 0#16) ∧
    decode true 0x6940FF800017#48 = .command (.sdSendOpCond 0#1 1#1 0#6 0xFF8000#24) := by
  decide +kernel

theorem test_decode_configuration :
    decode false 0x4680FFFFF129#48 = .command (.switchFunc 1#1 0x0FFFFF#27 1#4) ∧
    decode false 0x500000020015#48 = .command (.setBlocklen 0x200#32) ∧
    decode false 0x57000000020B#48 = .command (.setBlockCount 2#32) ∧
    decode false 0x600000000A6B#48 = .command (.eraseWrBlkStart 0xA#32) ∧
    decode false 0x6100000014C9#48 = .command (.eraseWrBlkEnd 0x14#32) ∧
    decode false 0x6600000000A5#48 = .command (.erase 0#32) ∧
    decode true 0x57000000101D#48 = .command (.setWrBlkEraseCount 0#9 0x10#23) ∧
    decode true 0x7300000000C7#48 = .command (.sendScr 0#32) := by
  decide +kernel

theorem test_decode_block_io :
    decode false 0x4C0000000061#48 = .command (.stopTransmission 0#32) ∧
    decode false 0x520000006405#48 = .command (.readMultipleBlock 100#32) ∧
    decode false 0x58000000648B#48 = .command (.writeBlock 100#32) ∧
    decode false 0x5900000064E7#48 = .command (.writeMultipleBlock 100#32) := by
  decide +kernel

/-- Sections 2.1 and 2.6: rejections, and the prefix before a standard and a reserved index. -/
theorem test_decode_rejections :
    decode false 0x4D1234000029#48 = .crcFailure ∧ decode false 0x4D12340000D6#48 = .crcFailure ∧
    decode false 0x0D12340000D7#48 = .notSurfaced ∧ decode false 0xCD12340000D7#48 = .notSurfaced ∧
    decode false 0x45000000005B#48 = .unknown ∧ decode false 0x4100000000F9#48 = .unknown ∧
    decode true 0x4D000000000D#48 = .unknown ∧ decode false 0x7300000000C7#48 = .unknown ∧
    decode true 0x51000000050F#48 = .command (.readSingleBlock 5#32) := by decide +kernel

theorem test_encode :
    encode (.goIdleState 0#32) = 0x400000000095#48 ∧
    encode (.switchFunc 1#1 0x0FFFFF#27 1#4) = 0x4680FFFFF129#48 ∧
    encode (.sdSendOpCond 0#1 1#1 0#6 0xFF8000#24) = 0x6940FF800017#48 ∧
    encode (.sendIfCond 0#20 0b0010#4 0xAA#8) = 0x48000002AABD#48 := by decide +kernel

/-- The words of spec/opcode_table.json: a pattern alone, its CRC and end bits zero. -/
theorem test_table_words :
    decodeTableWord 48 0x400000000000 = some (.goIdleState 0#32) ∧
    decodeTableWord 48 0x690000000000 = some (.sdSendOpCond 0#1 0#1 0#6 0#24) ∧
    decodeTableWord 48 0x730000000000 = some (.sendScr 0#32) ∧
    decodeTableWord 48 0x450000000000 = none := by decide +kernel

theorem test_placed_word_runs_next :
    yields (step (State.reset.withFetchWord 48 0x690000000000)) (fun t =>
      t.cardState = .idle && t.inputs = [] && t.errUnhandledCmd = false && t.out.length = 1) =
      true := by decide +kernel

/-! ## Responses (section 2.2), statuses (section 2.4), CRC16 (section 2.5) -/

theorem test_response_frames :
    r7 0b0001#4 0xAA#8 = .short48 0x08000001AA13#48 false ∧
    r1 55#6 0x00000120#32 = .short48 0x370000012083#48 false ∧
    r3 0xC0FF8000#32 = .short48 0x3FC0FF8000FF#48 false ∧
    r2 0x035344534431364780123456780150F1#128 =
      .long136 0x3F035344534431364780123456780150F1#136 ∧
    r6 0x1234#16 0x0500#16 = .short48 0x031234050021#48 false ∧
    r1b 7#6 0x00000700#32 = .short48 0x070000070075#48 true ∧
    r1 17#6 0x80000900#32 = .short48 0x118000090051#48 false := by decide +kernel

theorem test_status_values :
    cardStatus (inState .idle) false true = 0x00000120#32 ∧
    cardStatus selected false false = 0x00000900#32 ∧
    cardStatus selected true false = 0x80000900#32 ∧
    cardStatus waitingWrite false false = 0x00000D00#32 ∧
    cardStatus landedWrite false false = 0x00000E00#32 ∧
    cardStatus { selected with stComCrcError := true } false false = 0x00800900#32 ∧
    cardStatus { selected with stIllegalCommand := true } false false = 0x00400900#32 ∧
    r6Status 0x00000700#32 = 0x0700#16 := by decide +kernel

theorem test_crc16_check_value :
    crc16 (laneBits [0x31#8, 0x32#8, 0x33#8, 0x34#8, 0x35#8, 0x36#8, 0x37#8, 0x38#8, 0x39#8]
      .one 0) = 0x31C3#16 := by decide +kernel

theorem test_data_crc_lanes :
    dataCrc [0x02#8, 0x35#8, 0x80#8, 0x03#8, 0x00#8, 0x00#8, 0x00#8, 0x00#8] .one = [0x957E#16] ∧
    dataCrc [0x02#8, 0x35#8, 0x80#8, 0x03#8, 0x00#8, 0x00#8, 0x00#8, 0x00#8] .four =
      [0x36A4#16, 0x381B#16, 0x0373#16, 0x89A9#16] := by decide +kernel

/-! ## One step of each command (sections 2.6 to 2.11) -/

/-- I-1, E-4. -/
theorem test_go_idle_state :
    yields (exec (.goIdleState 0#32) { selected with dat3 := false, busWidth := .four }) (fun t =>
      t.cardState = .idle && t.rca = 0#16 && t.busWidth = .one && t.errHostIsSpi && t.out = []) =
      true := by decide +kernel

/-- I-5. -/
theorem test_all_send_cid_is_illegal_in_idle :
    yields (exec (.allSendCid 0#32) (inState .idle)) (fun t =>
      t.errUnhandledCmd && t.stIllegalCommand && t.cardState = .idle && t.out = []) = true := by
  decide +kernel

theorem test_all_send_cid :
    yields (exec (.allSendCid 0#32) (inState .ready)) (fun t =>
      t.cardState = .identification && t.out.length = 1) = true := by decide +kernel

/-- P1 step 8: the card leaves Identification. -/
theorem test_send_relative_addr :
    yields (exec (.sendRelativeAddr 0#32) (inState .identification)) (fun t =>
      t.cardState = .standby && t.out.length = 1) = true := by decide +kernel

/-- T-1. -/
theorem test_switch_func :
    yields (exec (.switchFunc 1#1 0x0FFFFF#27 1#4) selected) (fun t =>
      t.rdPhase = .sendingReg && t.cardState = .sendData &&
      t.out = [.response (.short48 0x0600000900DD#48 false)]) = true := by decide +kernel

/-- I-8. -/
theorem test_select :
    yields (exec (.selectDeselectCard 0x1234#16 0#16) { selected with infoCardDesel := true })
      (fun t => t.cardState = .transfer && !t.infoCardDesel &&
        t.out = [.response (.short48 0x0700000900B1#48 true)]) = true := by decide +kernel

/-- E-5: the count is discarded, the address kept. -/
theorem test_deselect :
    yields (exec (.selectDeselectCard 0#16 0#16) { waitingRead with blockReadAddr := 0x200#32 })
      (fun t => t.cardState = .idle && t.rca = 0#16 && t.blockReadNum = 0#32 &&
        t.blockReadAddr = 0x200#32 && t.infoCardDesel && t.rdPhase = .rIdle && t.out = []) =
      true := by decide +kernel

/-- I-2. -/
theorem test_send_if_cond_other_voltage_is_silent :
    yields (exec (.sendIfCond 0#20 0b0010#4 0xAA#8) (inState .idle)) (fun t =>
      t.out = [] && !t.errUnhandledCmd) = true := by decide +kernel

/-- I-3. -/
theorem test_send_if_cond :
    yields (exec (.sendIfCond 0#20 0b0001#4 0x55#8) (inState .idle)) (fun t =>
      t.out = [.response (.short48 0x0800000155E1#48 false)]) = true := by decide +kernel

theorem test_send_csd :
    yields (exec (.sendCsd 0x1234#16 0#16) (inState .standby)) (fun t =>
      t.cardState = .standby && t.out.length = 1) = true := by decide +kernel

theorem test_send_cid_to_another_card_is_ignored :
    yields (exec (.sendCid 0#16 0#16) (inState .standby)) (fun t =>
      t.out = [] && !t.errUnhandledCmd) = true := by decide +kernel

/-- P5 step 6. -/
theorem test_stop_transmission_read :
    yields (exec (.stopTransmission 0#32) waitingRead) (fun t =>
      t.cardState = .transfer && t.blockReadStop && !t.blockReadAct &&
      t.out = [.response (.short48 0x0C00000B007F#48 true)]) = true := by decide +kernel

/-- B-1: the status shows a card that is not ready for data. -/
theorem test_stop_transmission_landed :
    yields (exec (.stopTransmission 0#32) { landedWrite with cardState := .receiveData }) (fun t =>
      t.cardState = .programming && t.wrStopping && t.blockWriteAct &&
      t.out = [.response (.short48 0x0C00000C001D#48 true)]) = true := by decide +kernel

/-- S7: a pending error bit is reported once. -/
theorem test_send_status :
    yields (exec (.sendStatus 0x1234#16 0#16) { selected with stComCrcError := true }) (fun t =>
      !t.stComCrcError && t.out = [.response (.short48 0x0D00800900B5#48 false)]) = true := by
  decide +kernel

/-- T-5. -/
theorem test_set_blocklen :
    yields (exec (.setBlocklen 0x200#32) selected) (fun t =>
      t.out = [.response (.short48 0x10000009000B#48 false)]) = true := by decide +kernel

/-- S6, T-8: the pending count bounds CMD25 and not CMD17. -/
theorem test_set_block_count :
    yields (exec (.setBlockCount 2#32) selected) (fun t =>
      t.blkCountPending = 2#32 && t.out = [.response (.short48 0x17000009001D#48 false)]) =
      true := by decide +kernel

/-- Block 0 is a block of every card. -/
theorem test_read_single_block :
    yields (exec (.readSingleBlock 0#32) { selected with blkCountPending := 2#32 }) (fun t =>
      t.rdPhase = .waitGo && t.blockReadAct && t.blockReadNum = 1#32 && t.xferBounded &&
      t.out = [.response (.short48 0x110000090067#48 false)]) = true := by decide +kernel

/-- P5 step 1. -/
theorem test_read_multiple_block :
    yields (exec (.readMultipleBlock 0#32) selected) (fun t =>
      t.cardState = .sendData && t.blockReadNum = 0#32 && !t.xferBounded &&
      t.out = [.response (.short48 0x1200000900D3#48 false)]) = true := by decide +kernel

/-- B-5. -/
theorem test_write_block :
    yields (exec (.writeBlock 0#32) selected) (fun t =>
      t.wrPhase = .waitData && !t.blockWriteAct && t.blockWriteNum = 1#32 &&
      t.out = [.response (.short48 0x18000009005D#48 false)]) = true := by decide +kernel

/-- P3 step 2. -/
theorem test_write_multiple_block :
    yields (exec (.writeMultipleBlock 0#32) { selected with blkCountPending := 2#32 }) (fun t =>
      t.cardState = .receiveData && t.blockWriteNum = 2#32 && t.xferBounded && t.wrFirst &&
      t.blkCountPending = 0#32 && t.out = [.response (.short48 0x190000090031#48 false)]) =
      true := by decide +kernel

/-- T-6. -/
theorem test_erase_range :
    yields (exec (.eraseWrBlkStart 0#32) { selected with eraseStart := 7#32 }) (fun t =>
      t.eraseStart = 0#32 && t.out = [.response (.short48 0x2000000900ED#48 false)]) = true ∧
    yields (exec (.eraseWrBlkEnd 0#32) { selected with eraseEnd := 7#32 }) (fun t =>
      t.eraseEnd = 0#32 && t.out = [.response (.short48 0x210000090081#48 false)]) = true := by
  decide +kernel

/-- T-6. -/
theorem test_erase :
    yields (exec (.erase 0#32) selected) (fun t =>
      t.cardState = .transfer && t.out = [.response (.short48 0x260000090097#48 true)]) = true := by
  decide +kernel

/-- Section 2.2. -/
theorem test_app_cmd :
    yields (exec (.appCmd 0x1234#16 0#16) selected) (fun t =>
      t.appCmd && t.out = [.response (.short48 0x370000092033#48 false)]) = true := by
  decide +kernel

/-- T-3. -/
theorem test_set_bus_width :
    yields (exec (.setBusWidth 0#30 0b10#2) selected) (fun t =>
      t.busWidth = .four && t.out = [.response (.short48 0x0600000920B9#48 false)]) = true := by
  decide +kernel

/-- T-6. -/
theorem test_set_wr_blk_erase_count :
    yields (exec (.setWrBlkEraseCount 0#9 0x10#23) selected) (fun t =>
      t.preeraseNum = 0x10#23 && t.out = [.response (.short48 0x170000092079#48 false)]) =
      true := by decide +kernel

/-- I-4. -/
theorem test_sd_send_op_cond :
    yields (exec (.sdSendOpCond 0#1 0#1 0#6 0#24) (inState .idle)) (fun t => t.cardState = .idle) =
      true ∧
    yields (exec (.sdSendOpCond 0#1 1#1 0#6 0xFF8000#24) (inState .idle)) (fun t =>
      t.cardState = .ready) = true := by decide +kernel

/-- T-4. -/
theorem test_send_scr :
    yields (exec (.sendScr 0#32) selected) (fun t =>
      t.rdPhase = .sendingReg && t.rdRegPayload.length = 8 &&
      t.out = [.response (.short48 0x330000092091#48 false)]) = true := by decide +kernel

/-! ## One step of each other event -/

/-- P2 step 3. -/
theorem test_consumer_go :
    yields (step (withEvent .consumerGo waitingRead)) (fun t =>
      t.rdPhase = .sending && !t.blockReadAct && t.blockReadNum = 0#32) = true := by decide +kernel

/-- T-1: a register block goes out whole and the card is back in Transfer. -/
theorem test_host_data_out_register :
    yields (step (withEvent .hostDataOut offered)) (fun t =>
      t.cardState = .transfer && t.rdPhase = .rIdle && t.rdRegPayload = [] && t.out.length = 2) =
      true := by decide +kernel

/-- B-5, the good block: what landing leaves (that a block with its own CRC16 lands is R276). -/
theorem test_host_data_in_good :
    (landBlock (List.replicate 512 0xA5#8) waitingWrite).cardState = .programming ∧
    (landBlock (List.replicate 512 0xA5#8) waitingWrite).out = [.token 0b010#3] ∧
    readWord (landBlock (List.replicate 512 0xA5#8) waitingWrite).mem .wb 127 =
      some 0xA5A5A5A5#32 := by decide +kernel

/-- B-5, a bad block: here one of 511 bytes. -/
theorem test_host_data_in_bad :
    yields (step (withEvent (.hostDataIn (List.replicate 511 0xA5#8) [0x42BE#16]) waitingWrite))
      (fun t => t.wrPhase = .waitData && !t.blockWriteAct && t.out = [.token 0b101#3] &&
        readWord t.mem .wb 0 = none) = true := by decide +kernel

/-- P3 step 11. -/
theorem test_consumer_done :
    yields (step (withEvent .consumerDone landedWrite)) (fun t =>
      t.cardState = .transfer && t.wrPhase = .wIdle && !t.blockWriteAct && t.blockWriteNum = 0#32) =
      true := by decide +kernel

/-- S4. -/
theorem test_buffers_are_apart :
    yields (step (withEvent (.consumerBufRead 0x00#8)
      { State.reset with
        mem := writeWord (writeWord [] .rb 0 0x11111111#32) .wb 0 0x22222222#32 }))
      (fun t => t.portData = 0x11111111#32 && t.draws = 0) = true := by decide +kernel

/-- M-3, M-4, M-6. -/
theorem test_races_are_recorded :
    yields (step (withEvent (.consumerBufWrite 0x01#8 0x11#32)
      { waitingRead with rdPhase := .sending })) (fun t =>
        t.faults = { rbRace := true, wbRace := false } && readWord t.mem .rb 1 = some 0x11#32) =
      true ∧
    yields (step (withEvent (.consumerBufWrite 0x80#8 0x33#32) waitingWrite)) (fun t =>
        t.faults = { rbRace := false, wbRace := true }) = true ∧
    yields (step (withEvent (.consumerBufWrite 0x01#8 0x11#32) waitingRead)) (fun t =>
        t.faults = { rbRace := false, wbRace := false }) = true := by decide +kernel

/-- M-5: a draw and no fault. -/
theorem test_raced_read_is_a_draw :
    yields (step (withEvent (.consumerBufRead 0x81#8) waitingWrite)) (fun t =>
      t.draws = 1 && t.faults = { rbRace := false, wbRace := false }) = true := by decide +kernel

/-- E-3, M-7. -/
theorem test_reset_event :
    yields (step (withEvent .reset
      { landedWrite with errCmdCrc := true, mem := writeWord [] .rb 0 0x01020304#32 })) (fun t =>
        !t.errCmdCrc && t.cardState = .idle && !t.blockWriteAct &&
        readWord t.mem .rb 0 = some 0x01020304#32) = true := by decide +kernel

/-! ## Every hypothesis of the statements can be met

One theorem for each statement that has hypotheses: a concrete state, event or frame that meets all
of them together; for a statement of several clauses, each clause at a boundary. -/

/-- At the two positions where the clauses meet, and at both ends. -/
theorem witness_SingleBitErrorsAreDetected :
    surfaced 0x400000000095#48 = true ∧ crcValid 0x400000000095#48 = true ∧
    (46 ≤ 46 ∧ 46 ≤ 47 ∧ 47 < 48) ∧ (45 < 46 ∧ 0 < 46) := by decide +kernel

/-- CMD0 and CMD55, the first and the last standard index. -/
theorem witness_StandardCommandSurvivesThePrefix :
    ((Instr.goIdleState 0#32).isApp = false ∧
      (Instr.goIdleState 0#32).index.toNat ∉ [6, 23, 41, 51] ∧
      (Instr.goIdleState 0#32).index.toNat ∉ [13, 22, 42, 18, 25, 26, 38]) ∧
    ((Instr.appCmd 0#16 0#16).isApp = false ∧
      (Instr.appCmd 0#16 0#16).index.toNat ∉ [6, 23, 41, 51] ∧
      (Instr.appCmd 0#16 0#16).index.toNat ∉ [13, 22, 42, 18, 25, 26, 38]) := by decide +kernel

theorem witness_EncodeOfDecodeIsTheFrame :
    decode true 0x7300000000C7#48 = .command (.sendScr 0#32) := by decide +kernel

theorem witness_StepRunsTheDecodedCommand :
    decode State.reset.appCmd 0x400000000095#48 = .command (.goIdleState 0#32) ∧
    (Instr.goIdleState 0#32).wellFormed = true := by decide +kernel

theorem witness_UnsurfacedFrameHasNoEffect :
    frameStart 0xCD12340000D7#48 ≠ 0#1 ∧ frameTrans 0x0D12340000D7#48 ≠ 1#1 := by decide +kernel

/-- One frame with a wrong CRC7, one with end bit 0. -/
theorem witness_BadCrcIsRejected :
    (frameStart 0x4D1234000029#48 = 0#1 ∧ frameTrans 0x4D1234000029#48 = 1#1 ∧
      frameCrc 0x4D1234000029#48 ≠ crc7 (bitsMsb (frameHead 0x4D1234000029#48))) ∧
    (frameStart 0x4D12340000D6#48 = 0#1 ∧ frameTrans 0x4D12340000D6#48 = 1#1 ∧
      frameEnd 0x4D12340000D6#48 ≠ 1#1) := by decide +kernel

theorem witness_UnknownCommandIsRejected :
    surfaced 0x45000000005B#48 = true ∧ crcValid 0x45000000005B#48 = true ∧
    resolve (frameIndex 0x45000000005B#48) State.reset.appCmd (frameArgument 0x45000000005B#48) =
      none := by decide +kernel

/-- Idle meets the clauses of all commands but those legal there; Transfer meets the clauses of
CMD8, ACMD41, CMD9, CMD10 and CMD12; SendData those of CMD7 and CMD55. -/
theorem witness_IllegalStateIsRejected :
    ((inState .idle).cardState ≠ .ready ∧
      (inState .idle).cardState ∉ [.identification, .standby] ∧
      (inState .idle).cardState ∉ [.standby, .transfer] ∧
      (inState .idle).cardState ∈ [CardState.idle, .ready, .identification] ∧
      (inState .idle).cardState ≠ .transfer) ∧
    (selected.cardState ≠ .idle ∧ selected.cardState ≠ .standby ∧
      selected.cardState ∉ [.sendData, .receiveData]) ∧
    waitingRead.cardState ∉ [.standby, .transfer] ∧
    waitingRead.cardState ∉ [.idle, .standby, .transfer] := by decide +kernel

theorem witness_OtherCardsFramesAreIgnored :
    (0#16 ≠ (inState .standby).rca ∧ (inState .standby).cardState = .standby) ∧
    (0#16 ≠ selected.rca ∧ selected.cardState ∉ [.idle, .ready, .identification] ∧
      selected.cardState ∈ [CardState.idle, .standby, .transfer]) := by decide +kernel

/-- Idle: SendIfCondEchoes, SendOpCondMakesReady, AppCmdSetsThePrefix. -/
theorem witness_Idle :
    State.reset.cardState = .idle ∧
    State.reset.cardState ∈ [CardState.idle, .standby, .transfer] := by decide +kernel

/-- Ready, CMD3's two states, and Standby for CMD9 and CMD10. -/
theorem witness_IdentificationCommandsAnswer :
    (inState .ready).cardState = .ready ∧
    (inState .identification).cardState ∈ [CardState.identification, .standby] ∧
    (inState .standby).cardState ∈ [CardState.identification, .standby] ∧
    (inState .standby).cardState = .standby := by decide +kernel

/-- SendStatusReports, SelectMovesToTransfer, AppCmdSetsThePrefix. -/
theorem witness_Standby :
    (inState .standby).cardState = .standby ∧
    (inState .standby).cardState ∈ [CardState.standby, .transfer] ∧
    (inState .standby).cardState ∈
      [CardState.standby, .transfer, .sendData, .receiveData, .programming, .disconnect] := by
  decide +kernel

theorem witness_DeselectAbortsToIdle : 0#16 ≠ waitingRead.rca := by decide +kernel

/-- RegisterBlocksAreOffered, BlocklenAndEraseOnlyAnswer, CountsAreStored,
SetBusWidthSelectsTheLines, EraseRangeIsPublished, ReadCommandsPublishARequest and
WriteCommandsWaitForData ask for Transfer alone; block 0 is in range on every card. -/
theorem witness_Transfer :
    selected.cardState = .transfer ∧ (0#32 : BitVec 32).toNat < Config.capacityBlocks :=
  ⟨rfl, capacityBlocks_pos⟩

theorem witness_StopTransmissionEndsTheTransfer :
    waitingRead.cardState = .sendData ∧
    ({ landedWrite with cardState := .receiveData }.cardState = .receiveData ∧
      { landedWrite with cardState := .receiveData }.wrPhase = .waitDone) ∧
    (waitingWrite.cardState = .receiveData ∧ waitingWrite.wrPhase ≠ .waitDone) := by
  decide +kernel

/-- A read buffer the consumer has filled with zeros. -/
def staged : State :=
  { waitingRead with
    rdPhase := .sending, blockReadAct := false, mem := cellsFrom 0 (List.replicate 512 0#8) }

theorem staged_words (i : Nat) (h : i < 128) : readWord staged.mem .rb i = some 0#32 := by
  have byte : ∀ k < 4, readByte staged.mem (bufBase .rb + 4 * i + k) = some (0#8 : Byte) := by
    intro k hk
    rw [show staged.mem = cellsFrom 0 (List.replicate 512 0#8) from rfl, readByte_cellsFrom,
      if_pos (Nat.zero_le _), List.getElem?_replicate, if_pos (by simp only [bufBase]; omega)]
  have first := byte 0 (by decide)
  rw [Nat.add_zero] at first
  simp only [readWord, first, byte 1 (by decide), byte 2 (by decide), byte 3 (by decide)]
  rfl

theorem witness_ReleasedBlockIsSentAsStaged :
    staged.rdPhase = .sending ∧ (List.replicate 128 (0#32 : Word32)).length = 128 ∧
    ∀ i, (h : i < (List.replicate 128 (0#32 : Word32)).length) →
      readWord staged.mem .rb i = some (List.replicate 128 (0#32 : Word32))[i] := by
  refine ⟨rfl, by simp, fun i h => ?_⟩
  rw [List.getElem_replicate]
  exact staged_words i (by simpa using h)

/-- A released block, its last word written. -/
theorem witness_ReleasedBlockHasAllItsBytes :
    staged.rdPhase = .sending ∧ readWord staged.mem .rb 127 = some 0#32 :=
  ⟨rfl, staged_words 127 (by decide)⟩

theorem witness_RegisterBlockIsSent : offered.rdPhase = .sendingReg := rfl

/-- Each clause: no block expected; a block one byte short; a good block. -/
theorem witness_HostBlockIsJudged :
    selected.wrPhase ≠ .waitData ∧
    (waitingWrite.wrPhase = .waitData ∧ ¬((List.replicate 511 (0#8 : Byte)).length = 512 ∧
      [0#16] = dataCrc (List.replicate 511 0#8) waitingWrite.busWidth)) ∧
    (waitingWrite.wrPhase = .waitData ∧ (List.replicate 512 (0#8 : Byte)).length = 512) :=
  ⟨by decide, ⟨rfl, fun h => absurd (List.length_replicate.symm.trans h.1) (by decide)⟩, rfl,
    List.length_replicate⟩

/-- Both sequencers idle; a request not yet released; a halted read; no read during a write. -/
theorem witness_IdleSequencerIgnoresDataEvents :
    (selected.rdPhase = .rIdle ∧ selected.wrPhase = .wIdle) ∧
    ∀ s ∈ [waitingRead, { waitingRead with rdPhase := .rHalted, blockReadAct := false },
      landedWrite], s.rdPhase ≠ .sending ∧ s.rdPhase ≠ .sendingReg := by decide +kernel

/-- One block at address 0, which every card has, the two events in the queue. -/
theorem witness_BoundedReadTakesExactlyItsGoStrobes :
    ∃ s : State, 0 < 1 ∧ s.cardState = .sendData ∧ s.rdPhase = .waitGo ∧ s.xferBounded = true ∧
      s.blockReadNum.toNat = 1 ∧ s.blockReadAddr.toNat + 1 ≤ Config.capacityBlocks ∧
      s.inputs = (List.replicate 1 [Event.consumerGo, Event.hostDataOut]).flatten :=
  ⟨{ waitingRead with inputs := [.consumerGo, .hostDataOut] }, by decide, rfl, rfl, rfl, rfl,
    capacityBlocks_pos, rfl⟩

theorem witness_BoundedWriteTakesExactlyItsDoneStrobes :
    ∃ (s : State) (blocks : List (List Byte)), blocks ≠ [] ∧ (∀ b ∈ blocks, b.length = 512) ∧
      s.cardState = .receiveData ∧ s.wrPhase = .waitData ∧ s.wrFirst = true ∧
      s.wrStopping = false ∧ s.xferBounded = true ∧ s.blockWriteNum.toNat = blocks.length ∧
      s.blockWriteAddr.toNat + blocks.length ≤ Config.capacityBlocks ∧
      s.inputs = blocks.flatMap
        (fun b => [Event.hostDataIn b (dataCrc b s.busWidth), Event.consumerDone]) :=
  ⟨{ waitingWrite with
      inputs := [.hostDataIn (List.replicate 512 0#8) (dataCrc (List.replicate 512 0#8) .one),
        .consumerDone] },
    [List.replicate 512 0#8], List.cons_ne_nil _ _,
    fun _ hb => (List.mem_singleton.1 hb) ▸ List.length_replicate, rfl, rfl, rfl, rfl, rfl, rfl, capacityBlocks_pos,
    rfl⟩

/-- Each clause: a raced read, an unwritten word, a written word at the last read address, and the
first and the last card state. -/
theorem witness_ConsumerReadsReturnTheirValue :
    ((0x80#8).getLsbD 7 = true ∧ waitingWrite.wrPhase = .waitData) ∧
    readWord selected.mem .rb ((0x7F#8).extractLsb' 0 7).toNat = none ∧
    (¬((0x7F#8).getLsbD 7 = true ∧ staged.wrPhase = .waitData) ∧
      readWord staged.mem .rb ((0x7F#8).extractLsb' 0 7).toNat = some 0#32) ∧
    (inState .idle).cardState = .idle ∧ (inState .disconnect).cardState = .disconnect :=
  ⟨by decide, rfl, ⟨by decide, staged_words 127 (by decide)⟩, rfl, rfl⟩

theorem witness_ConsumerWriteIsIsolated :
    step (withEvent (.consumerBufWrite 0xFF#8 1#32) selected) =
      .next { selected with mem := writeWord [] .wb 127 1#32 } := by rfl

/-- A landing and the last word read back; a consumer write to the read buffer while the landed block
waits, and the first and the last byte of the write buffer. -/
theorem witness_LandedBlockReadsBack :
    (waitingWrite.wrPhase = .waitData ∧ (List.replicate 512 (0#8 : Byte)).length = 512 ∧
      (∃ t, step (withEvent (.hostDataIn (List.replicate 512 0#8)
        (dataCrc (List.replicate 512 0#8) waitingWrite.busWidth)) waitingWrite) = .next t) ∧
      (0xFF#8).getLsbD 7 = true) ∧
    (landedWrite.wrPhase ≠ .waitData ∧ (0x7F#8).getLsbD 7 = false ∧
      (∃ t, step (withEvent (.consumerBufWrite 0x7F#8 1#32) landedWrite) = .next t) ∧
      (bufBase .wb ≤ 512 ∧ 512 < bufBase .wb + 512) ∧
      (bufBase .wb ≤ 1023 ∧ 1023 < bufBase .wb + 512)) :=
  ⟨⟨rfl, List.length_replicate, ⟨_, rfl⟩, by decide⟩, by decide, by decide, ⟨_, rfl⟩, by decide,
    by decide⟩

/-- A state with a pending read that meets the invariant, and a step from it.  The RCA is the card's
own, which the invariant asks for in SendData. -/
theorem witness_StepKeepsTheInvariant :
    ∃ s t : State, s.blockReadAct = true ∧ CoreInvariant s ∧ step s = .next t := by
  refine ⟨{ waitingRead with rca := Config.rcaValue, inputs := [.consumerGo] }, _, rfl, ?_, rfl⟩
  constructor <;>
    simp [waitingRead, inState, State.reset, phasesAgree, reading, writing, inCard,
      capacityBlocks_pos, Memory.wf]

theorem witness_StepKeepsWordsWhole :
    wholeWords State.reset.mem ∧ step State.reset = .next State.reset :=
  ⟨fun b i _ => .inr fun k _ => by simp [State.reset, readByte], rfl⟩

/-- Each clause: another event than `Reset` with every flag set, and `Reset`. -/
theorem witness_ErrorFlagsAreSticky :
    (∃ s t : State, s.errCmdCrc = true ∧ s.errUnhandledCmd = true ∧ s.errOpOutRange = true ∧
      s.errHostIsSpi = true ∧ Event.consumerGo ≠ .reset ∧
      step (withEvent .consumerGo s) = .next t) ∧
    ∃ t, step (withEvent .reset selected) = .next t :=
  ⟨⟨{ waitingRead with
      errCmdCrc := true, errUnhandledCmd := true, errOpOutRange := true, errHostIsSpi := true },
    _, rfl, rfl, rfl, rfl, by decide, rfl⟩, ⟨_, rfl⟩⟩

/-- The clauses: `Reset`; CMD7 with another RCA, with the own RCA in Transfer and in SendData; an
event that is none of them. -/
theorem witness_DeselectFlagFollowsSelection :
    (∃ t, step (withEvent .reset selected) = .next t) ∧
    (decode selected.appCmd 0x470000000083#48 = .command (.selectDeselectCard 0#16 0#16) ∧
      0#16 ≠ selected.rca ∧
      yields (step (withEvent (.hostCommand 0x470000000083#48 true) selected)) (fun _ => true)) ∧
    (decode selected.appCmd 0x471234000059#48 = .command (.selectDeselectCard 0x1234#16 0#16) ∧
      0x1234#16 = selected.rca ∧ selected.cardState ∈ [CardState.standby, .transfer] ∧
      0x1234#16 = waitingRead.rca ∧ waitingRead.cardState ∉ [CardState.standby, .transfer] ∧
      yields (step (withEvent (.hostCommand 0x471234000059#48 true) waitingRead))
        (fun _ => true)) ∧
    (Event.consumerGo ≠ .reset ∧ (∀ f d, Event.consumerGo ≠ .hostCommand f d) ∧
      ∃ t, step (withEvent .consumerGo waitingRead) = .next t) :=
  ⟨⟨_, rfl⟩, by decide +kernel, by decide +kernel, by decide, fun _ _ => by simp, ⟨_, rfl⟩⟩

/-- CMD0 with DAT3 low, which raises `err_host_is_spi`. -/
theorem witness_OneFrameRaisesOneError :
    yields (step (withEvent (.hostCommand 0x400000000095#48 false) selected)) (fun t =>
      t.errHostIsSpi != selected.errHostIsSpi) = true := by decide +kernel

/-- CMD55 to the card, which sets `app_cmd`; with it set, a frame that is not surfaced and an event
that is no frame. -/
theorem witness_PrefixLastsForOneFrame :
    (surfaced 0x7712340000BF#48 = true ∧
      yields (step (withEvent (.hostCommand 0x7712340000BF#48 true) selected)) (fun t => t.appCmd) =
        true) ∧
    ∀ e ∈ [Event.hostCommand 0xCD12340000D7#48 true, .consumerGo], e ≠ .reset ∧
      surfaced 0xCD12340000D7#48 = false ∧
      yields (step (withEvent e { selected with appCmd := true })) (fun t => t.appCmd) = true := by
  decide +kernel

/-- A consumer write to the write buffer, and an event that is no consumer write. -/
theorem witness_ReadBufferIsTheConsumers :
    (0x80#8).getLsbD 7 = true ∧
    (∃ t, step (withEvent (.consumerBufWrite 0x80#8 1#32) selected) = .next t) ∧
    ∃ t, step (withEvent .consumerGo waitingRead) = .next t := ⟨by decide, ⟨_, rfl⟩, ⟨_, rfl⟩⟩

/-- Two states that differ in the write buffer, and the read of a released block. -/
theorem witness_NoReactionReadsTheWriteBuffer :
    ∃ (s t : State) (m : Memory), m ≠ s.mem ∧ s.rdPhase = .sending ∧
      (∀ i < 128, readWord m .rb i = readWord s.mem .rb i) ∧
      (∀ a, Event.hostDataOut ≠ .consumerBufRead a) ∧
      step (withEvent .hostDataOut s) = .next t :=
  ⟨{ waitingRead with rdPhase := .sending }, _, [(512, 0#8)], by simp [waitingRead, inState,
    State.reset], rfl, by decide +kernel, fun _ => by simp, rfl⟩

/-- A fault already recorded and an event that keeps the duties of the consumer. -/
theorem witness_FaultsComeOnlyFromRaces :
    ∃ s t : State, s.faults.rbRace = true ∧ s.faults.wbRace = true ∧
      keepsDuty s (.consumerBufWrite 0x00#8 1#32) = true ∧
      step (withEvent (.consumerBufWrite 0x00#8 1#32) s) = .next t :=
  ⟨{ waitingRead with faults := { rbRace := true, wbRace := true } }, _, rfl, rfl, by decide, rfl⟩

/-- The two clauses: a go with a read pending, and a done with a write pending. -/
theorem witness_PendingRequestsWaitForService :
    (∃ s t : State, CoreInvariant s ∧ step (withEvent .consumerGo s) = .next t ∧
      s.blockReadAct = true ∧ t.blockReadAct = false) ∧
    ∃ s t : State, CoreInvariant s ∧ step (withEvent .consumerDone s) = .next t ∧
      s.blockWriteAct = true ∧ t.blockWriteAct = false := by
  refine ⟨⟨{ waitingRead with rca := Config.rcaValue }, _, ?_, rfl, rfl, rfl⟩,
    ⟨{ landedWrite with rca := Config.rcaValue }, _, ?_, rfl, rfl, rfl⟩⟩ <;> constructor <;>
    simp [landedWrite, waitingWrite, waitingRead, inState, State.reset, phasesAgree, reading,
      writing, inCard, capacityBlocks_pos, Memory.wf]

/-- The three clauses: ACMD23, CMD32 and CMD33 that change their field. -/
theorem witness_EraseFieldsHaveTheirOwnWriters :
    yields (step (withEvent (.hostCommand 0x57000000101D#48 true) { selected with appCmd := true }))
      (fun t => t.preeraseNum != selected.preeraseNum) = true ∧
    yields (step (withEvent (.hostCommand 0x6000000000DF#48 true)
      { selected with eraseStart := 1#32 })) (fun t => t.eraseStart != 1#32) = true ∧
    yields (step (withEvent (.hostCommand 0x6100000000B3#48 true)
      { selected with eraseEnd := 1#32 })) (fun t => t.eraseEnd != 1#32) = true := by
  decide +kernel

end Sys2Proof.Tests
end

/-! PROOFS. The state: what every step keeps of the invariants of 10_state.md (R20 to R39, R50), the
model faults of R48, and the state at power-up (R51, R341). -/

namespace Sys2Proof.Machine

open Sys2Proof.Statements

/-! ## What an outcome can answer -/

/-- Every next state the outcome can answer has the property. -/
def NextHas (P : State → Prop) (o : Host.Outcome State Fault Refusal) : Prop :=
  ∀ t, o = .next t → P t

@[simp] theorem nextHas_next {P : State → Prop} {t : State} : NextHas P (.next t) ↔ P t := by
  simp [NextHas]

/-- What holds after a rejection and after the command's rule holds after the dispatch (R142). -/
theorem dispatch_has {P : State → Prop} {legal : List CardState} {rule : State → State}
    {s : State} (illegal : P (rejectIllegal (beginFrame s)))
    (accept : s.cardState ∈ legal → P (rule (beginFrame s))) : P (dispatch legal rule s) := by
  obtain ⟨hc, e⟩ | ⟨-, e⟩ := dispatch_cases legal rule s <;> rw [e]
  · exact accept hc
  · exact illegal

/-- What holds of a state and after the command's rule holds after the addressing check (R150). -/
theorem ifAddressed_has {P : State → Prop} {rca : Rca} {rule : State → State} {p : State}
    (other : P p) (own : P (rule p)) : P (ifAddressed rca rule p) := by
  obtain ⟨-, e⟩ | ⟨-, e⟩ := ifAddressed_cases rca rule p <;> rw [e]
  · exact own
  · exact other

/-- An event put in front of the queue is the one the core reacts to. -/
theorem step_withEvent (e : Event) (s : State) : step (withEvent e s) = react e s := rfl

/-! ## The invariant in three parts -/

/-- The RCA that goes with a card state (R22). -/
def addressIn (c : CardState) : Rca :=
  if c ∈ [.idle, .ready, .identification] then 0#16 else Config.rcaValue

/-- The clauses of `CoreInvariant` that belong to neither sequencer alone. -/
structure CardPart (s : State) : Prop where
  phases : phasesAgree s.cardState s.rdPhase s.wrPhase = true
  address : s.rca = addressIn s.cardState
  eraseInCard : inCard s.eraseStart ∧ inCard s.eraseEnd
  buffers : s.mem.wf

/-- The clauses of `CoreInvariant` about the read sequencer. -/
structure ReadPart (s : State) : Prop where
  level : s.blockReadAct = true ↔ s.rdPhase = .waitGo
  payload : if s.rdPhase = .sendingReg then s.rdRegPayload.length = 8 ∨ s.rdRegPayload.length = 64
    else s.rdRegPayload = []
  count : s.rdPhase = .waitGo → s.xferBounded = true → s.blockReadNum ≠ 0#32
  openEnded : reading s = true → s.xferBounded = false → s.blockReadNum = 0#32
  addrInCard : reading s = true → inCard s.blockReadAddr

/-- The clauses of `CoreInvariant` about the write sequencer. -/
structure WritePart (s : State) : Prop where
  level : s.blockWriteAct = true ↔ s.wrPhase = .waitDone
  count : writing s = true → s.xferBounded = true → s.blockWriteNum ≠ 0#32
  openEnded : writing s = true → s.xferBounded = false → s.blockWriteNum = 0#32
  addrInCard : writing s = true → inCard s.blockWriteAddr
  nextInCard : s.wrPhase = .waitData → s.wrFirst = false →
    s.blockWriteAddr.toNat + 1 < Config.capacityBlocks
  lastBlock : s.cardState = .programming →
    s.wrStopping = true ∨ (s.xferBounded = true ∧ s.blockWriteNum = 1#32)

theorem coreInvariant_iff_parts (s : State) :
    CoreInvariant s ↔ CardPart s ∧ ReadPart s ∧ WritePart s where
  mp h :=
    ⟨⟨h.phases, h.address, h.eraseInCard, h.buffers⟩,
      ⟨h.readLevel, h.payload, h.readCount, h.readOpen, h.readInCard⟩,
      ⟨h.writeLevel, h.writeCount, h.writeOpen, h.writeInCard, h.nextInCard, h.lastBlock⟩⟩
  mpr := fun ⟨c, r, w⟩ =>
    { phases := c.phases, address := c.address, eraseInCard := c.eraseInCard, buffers := c.buffers
      readLevel := r.level, payload := r.payload, readCount := r.count, readOpen := r.openEnded
      readInCard := r.addrInCard, writeLevel := w.level, writeCount := w.count
      writeOpen := w.openEnded, writeInCard := w.addrInCard, nextInCard := w.nextInCard
      lastBlock := w.lastBlock }

theorem CoreInvariant.card {s : State} (h : CoreInvariant s) : CardPart s :=
  ((coreInvariant_iff_parts s).1 h).1

theorem CoreInvariant.write {s : State} (h : CoreInvariant s) : WritePart s :=
  ((coreInvariant_iff_parts s).1 h).2.2

theorem CoreInvariant.of_parts {s : State} (c : CardPart s) (r : ReadPart s) (w : WritePart s) :
    CoreInvariant s := (coreInvariant_iff_parts s).2 ⟨c, r, w⟩

/-- A read sequencer at rest promises nothing about its counts and addresses. -/
theorem ReadPart.of_rIdle {s : State} (phase : s.rdPhase = .rIdle) (low : s.blockReadAct = false)
    (noPayload : s.rdRegPayload = []) : ReadPart s := by
  constructor <;> simp [reading, phase, low, noPayload]

/-- A write sequencer at rest promises nothing about its counts and addresses. -/
theorem WritePart.of_wIdle {s : State} (phase : s.wrPhase = .wIdle) (low : s.blockWriteAct = false)
    (card : s.cardState ≠ .programming) : WritePart s := by
  constructor <;> simp [writing, phase, low, card]

/-! ## The fields the invariant does not read -/

/-- The state with every field that `CoreInvariant` does not read at a fixed value. -/
def coreView (s : State) : State :=
  { s with
    appCmd := false, blkCountPending := 0, busWidth := .one, hsActive := false
    stOutOfRange := false, stComCrcError := false, stIllegalCommand := false
    blockReadStop := false, preeraseNum := 0, infoCardDesel := false, errCmdCrc := false
    errUnhandledCmd := false, errOpOutRange := false, errHostIsSpi := false
    faults := { rbRace := false, wbRace := false }
    out := [], inputs := [], dat3 := true, draws := 0, portData := 0 }

theorem coreInvariant_coreView (s : State) : CoreInvariant (coreView s) ↔ CoreInvariant s :=
  ⟨fun h => { h with }, fun h => { h with }⟩

/-- The invariant depends on the viewed fields alone. -/
theorem CoreInvariant.congr {s t : State} (h : CoreInvariant s) (e : coreView t = coreView s) :
    CoreInvariant t := by
  rw [← coreInvariant_coreView, e, coreInvariant_coreView]
  exact h

theorem coreView_raiseError (e : ErrorClass) (s : State) :
    coreView (raiseError e s) = coreView s := by cases e <;> rfl

/-! ## What the phase table says (R50) -/

/-- The card states in which both sequencers rest. -/
def restingState (c : CardState) : Bool := phasesAgree c .rIdle .wIdle

/-- Both sequencers rest, their levels low. -/
structure AtRest (s : State) : Prop where
  rdPhase : s.rdPhase = .rIdle
  wrPhase : s.wrPhase = .wIdle
  readLow : s.blockReadAct = false
  writeLow : s.blockWriteAct = false
  payload : s.rdRegPayload = []

theorem CoreInvariant.readLow {s : State} (h : CoreInvariant s) (hp : s.rdPhase ≠ .waitGo) :
    s.blockReadAct = false := by
  simpa [hp] using h.readLevel

theorem CoreInvariant.writeLow {s : State} (h : CoreInvariant s) (hp : s.wrPhase ≠ .waitDone) :
    s.blockWriteAct = false := by
  simpa [hp] using h.writeLevel

theorem CoreInvariant.payload_nil {s : State} (h : CoreInvariant s)
    (hp : s.rdPhase ≠ .sendingReg) : s.rdRegPayload = [] := by
  simpa [hp] using h.payload

theorem CoreInvariant.atRest {s : State} (h : CoreInvariant s)
    (hc : restingState s.cardState = true) : AtRest s := by
  have hph : s.rdPhase = .rIdle ∧ s.wrPhase = .wIdle := by
    have := h.phases
    cases e : s.cardState <;> simp_all [restingState, phasesAgree]
  obtain ⟨hr, hw⟩ := hph
  exact ⟨hr, hw, h.readLow (by simp [hr]), h.writeLow (by simp [hw]),
    h.payload_nil (by simp [hr])⟩

/-- With both sequencers at rest the card clauses are the whole invariant. -/
theorem AtRest.invariant {s : State} (h : AtRest s) (hc : restingState s.cardState = true)
    (address : s.rca = addressIn s.cardState)
    (erase : inCard s.eraseStart ∧ inCard s.eraseEnd) (buffers : s.mem.wf) : CoreInvariant s :=
  .of_parts ⟨by rw [h.rdPhase, h.wrPhase]; exact hc, address, erase, buffers⟩
    (.of_rIdle h.rdPhase h.readLow h.payload)
    (.of_wIdle h.wrPhase h.writeLow fun e => by simp [e, restingState, phasesAgree] at hc)

/-- A read phase other than the idle one is in SendData, and no write is then under way. -/
theorem CoreInvariant.of_rdPhase_ne {s : State} (h : CoreInvariant s) (hr : s.rdPhase ≠ .rIdle) :
    s.cardState = .sendData ∧ s.wrPhase = .wIdle := by
  have := h.phases
  cases e : s.cardState <;> simp_all [phasesAgree]

/-- A write phase other than the idle one is in ReceiveData or, for a landed block, in
Programming, and no read is then under way. -/
theorem CoreInvariant.of_wrPhase_ne {s : State} (h : CoreInvariant s) (hw : s.wrPhase ≠ .wIdle) :
    s.rdPhase = .rIdle ∧
      (s.cardState = .receiveData ∨ s.cardState = .programming ∧ s.wrPhase = .waitDone) := by
  have := h.phases
  cases e : s.cardState <;> simp_all [phasesAgree]

/-- No read sequencer clause is at stake during a write. -/
theorem CoreInvariant.readPart_of_writing {s t : State} (h : CoreInvariant s)
    (hw : s.wrPhase ≠ .wIdle) (phase : t.rdPhase = s.rdPhase)
    (level : t.blockReadAct = s.blockReadAct) (payload : t.rdRegPayload = s.rdRegPayload) :
    ReadPart t := by
  have hr := (h.of_wrPhase_ne hw).1
  exact .of_rIdle (phase.trans hr) (level.trans (h.readLow (by simp [hr])))
    (payload.trans (h.payload_nil (by simp [hr])))

/-- No write sequencer clause is at stake during a read. -/
theorem CoreInvariant.writePart_of_reading {s t : State} (h : CoreInvariant s)
    (hr : s.rdPhase ≠ .rIdle) (phase : t.wrPhase = s.wrPhase)
    (level : t.blockWriteAct = s.blockWriteAct) (card : t.cardState ≠ .programming) :
    WritePart t := by
  have hw := (h.of_rdPhase_ne hr).2
  exact .of_wIdle (phase.trans hw) (level.trans (h.writeLow (by simp [hw]))) card

/-- The card moves between two states of rest, with the RCA of the new one. -/
theorem CoreInvariant.move {s : State} (h : CoreInvariant s)
    (hs : restingState s.cardState = true) {c : CardState} (hc : restingState c = true) {r : Rca}
    (hr : r = addressIn c) : CoreInvariant { s with cardState := c, rca := r } :=
  AtRest.invariant { h.atRest hs with } hc hr h.eraseInCard h.buffers

/-- Outside the identification states the card has its published RCA. -/
theorem CoreInvariant.rca_eq {s : State} (h : CoreInvariant s) {c : CardState}
    (hc : s.cardState = c) (hp : c ∉ [.idle, .ready, .identification]) :
    s.rca = Config.rcaValue := by
  rw [h.address, hc, if_neg hp]

/-! ## Power-up and reset (R51, R341, R340, R346) -/

theorem inCard_zero : inCard 0 := capacityBlocks_pos

/-- An address with a successor in the card advances within it (R53, R266, R281). -/
theorem inCard_succ {a : Word32} (h : a.toNat + 1 < Config.capacityBlocks) :
    inCard (a + 1#32) := by
  have inRange : nextOutOfRange a = false := by simpa [nextOutOfRange] using h
  rw [inCard, toNat_succ_of_inRange a inRange]
  exact h

theorem reset_invariant : CoreInvariant State.reset :=
  AtRest.invariant ⟨rfl, rfl, rfl, rfl, rfl⟩ rfl rfl ⟨inCard_zero, inCard_zero⟩
    ⟨.nil, by simp [State.reset]⟩

theorem platformReset_keeps {s : State} (h : CoreInvariant s) : CoreInvariant (platformReset s) :=
  AtRest.invariant ⟨rfl, rfl, rfl, rfl, rfl⟩ rfl rfl ⟨inCard_zero, inCard_zero⟩ h.buffers

theorem backToIdle_keeps {s : State} (h : CoreInvariant s) : CoreInvariant (backToIdle s) :=
  AtRest.invariant ⟨rfl, rfl, rfl, rfl, rfl⟩ rfl rfl h.eraseInCard h.buffers

/-! ## The transfer starts (R210, R224, R250 to R254) -/

/-- A count of `StartCount` (R250): a bounded one is not 0, an open-ended one is. -/
def startCount (c : Bool × Word32) : Prop := (c.1 = true → c.2 ≠ 0#32) ∧ (c.1 = false → c.2 = 0#32)

theorem startCount_single : startCount singleBlockCount := by
  simp [startCount, singleBlockCount]

theorem startCount_multi (pending : Word32) : startCount (multiBlockCount pending) := by
  by_cases h : pending = 0#32 <;> simp [startCount, multiBlockCount, h]

theorem startRead_keeps {p : State} (h : CoreInvariant p) (hc : p.cardState = .transfer)
    (index : BitVec 6) {count : Bool × Word32} (hcount : startCount count) (a : Word32) :
    CoreInvariant (startRead index count a p) := by
  obtain ⟨-, e⟩ | ⟨ha, e⟩ := startRead_cases index count a p <;> rw [e]
  · exact h.congr (coreView_raiseError _ _)
  · have rest : AtRest p := h.atRest (by rw [hc]; rfl)
    exact .of_parts
      { phases := by simp [phasesAgree, rest.wrPhase]
        address := h.rca_eq hc (by decide)
        eraseInCard := h.eraseInCard
        buffers := h.buffers }
      { level := by simp
        payload := rest.payload
        count := fun _ => hcount.1
        openEnded := fun _ => hcount.2
        addrInCard := fun _ => ha }
      (.of_wIdle rest.wrPhase rest.writeLow (by simp))

theorem startWrite_keeps {p : State} (h : CoreInvariant p) (hc : p.cardState = .transfer)
    (index : BitVec 6) {count : Bool × Word32} (hcount : startCount count) (a : Word32) :
    CoreInvariant (startWrite index count a p) := by
  obtain ⟨-, e⟩ | ⟨ha, e⟩ := startWrite_cases index count a p <;> rw [e]
  · exact h.congr (coreView_raiseError _ _)
  · have rest : AtRest p := h.atRest (by rw [hc]; rfl)
    exact .of_parts
      { phases := by simp [phasesAgree, rest.rdPhase]
        address := h.rca_eq hc (by decide)
        eraseInCard := h.eraseInCard
        buffers := h.buffers }
      (.of_rIdle rest.rdPhase rest.readLow rest.payload)
      { level := by simp
        count := fun _ => hcount.1
        openEnded := fun _ => hcount.2
        addrInCard := fun _ => ha
        nextInCard := by simp
        lastBlock := by simp }

/-- A register block of 8 or 64 bytes may be offered in Transfer (R26). -/
theorem offerRegister_keeps {p : State} (h : CoreInvariant p) (hc : p.cardState = .transfer)
    {payload : List Byte} (hlen : payload.length = 8 ∨ payload.length = 64) :
    CoreInvariant (offerRegister payload p) := by
  have rest : AtRest p := h.atRest (by rw [hc]; rfl)
  exact .of_parts
    { phases := by simp [offerRegister, phasesAgree, rest.wrPhase]
      address := h.rca_eq hc (by decide)
      eraseInCard := h.eraseInCard
      buffers := h.buffers }
    { level := by simp [offerRegister, rest.readLow]
      payload := hlen
      count := by simp [offerRegister]
      openEnded := by simp [offerRegister, reading]
      addrInCard := by simp [offerRegister, reading] }
    (.of_wIdle rest.wrPhase rest.writeLow (by simp [offerRegister]))

/-! ## CMD12 (R260) -/

theorem stopRead_keeps {s : State} (h : CoreInvariant s) (hc : s.cardState = .sendData) :
    CoreInvariant (stopRead s) := by
  have hw : s.wrPhase = .wIdle := by
    have := h.phases
    simp_all [phasesAgree]
  exact AtRest.invariant ⟨rfl, hw, rfl, h.writeLow (by simp [hw]), rfl⟩ rfl
    (h.rca_eq hc (by decide)) h.eraseInCard h.buffers

theorem stopWrite_keeps {s : State} (h : CoreInvariant s) (hc : s.cardState = .receiveData) :
    CoreInvariant (stopWrite s) := by
  have hph : s.rdPhase = .rIdle ∧ s.wrPhase ≠ .wIdle := by
    have := h.phases
    simp_all [phasesAgree]
  obtain ⟨hr, hw⟩ := hph
  have noRead : s.blockReadAct = false ∧ s.rdRegPayload = [] :=
    ⟨h.readLow (by simp [hr]), h.payload_nil (by simp [hr])⟩
  by_cases hd : s.wrPhase = .waitDone
  · rw [stopWrite, if_pos hd]
    exact .of_parts
      { phases := by simp [phasesAgree, hr, hd]
        address := h.rca_eq hc (by decide)
        eraseInCard := h.eraseInCard
        buffers := h.buffers }
      (.of_rIdle hr noRead.1 noRead.2)
      { h.write with lastBlock := fun _ => .inl rfl }
  · rw [stopWrite, if_neg hd]
    exact AtRest.invariant ⟨hr, rfl, noRead.1, h.writeLow hd, noRead.2⟩ rfl
      (h.rca_eq hc (by decide)) h.eraseInCard h.buffers

/-! ## The read sequencer (R264 to R269) -/

theorem consumerGo_keeps {s : State} (h : CoreInvariant s) : CoreInvariant (consumerGo s) := by
  obtain ⟨hg, e⟩ | ⟨-, e⟩ := consumerGo_cases s <;> rw [e]
  · have hne : s.rdPhase ≠ .rIdle := by simp [hg]
    obtain ⟨hc, hw⟩ := h.of_rdPhase_ne hne
    have hr : reading s = true := by simp [reading, hg]
    exact .of_parts
      { h.card with phases := by simp [phasesAgree, hc, hw] }
      { level := by simp
        payload := h.payload_nil (by simp [hg])
        count := by simp
        openEnded := fun _ (hb : s.xferBounded = false) => by simpa [hb] using h.readOpen hr hb
        addrInCard := fun _ => h.readInCard hr }
      (h.writePart_of_reading hne rfl rfl (by simp [hc]))
  · exact h

/-- A read whose block has gone out and was not the last one goes on or halts (R266). -/
theorem readAdvance_keeps {s : State} (h : CoreInvariant s) (hp : s.rdPhase = .sending)
    (more : ¬(s.xferBounded = true ∧ s.blockReadNum = 0#32)) :
    CoreInvariant (readAdvance s) := by
  have hne : s.rdPhase ≠ .rIdle := by simp [hp]
  have hr : reading s = true := by simp [reading, hp]
  have noPayload : s.rdRegPayload = [] := h.payload_nil (by simp [hp])
  obtain ⟨hc, hw⟩ := h.of_rdPhase_ne hne
  obtain ⟨-, e⟩ | ⟨ha, e⟩ := readAdvance_cases s <;> rw [e]
  · exact .of_parts
      { h.card with phases := by simp [phasesAgree, hc, hw] }
      { level := by simp [h.readLow (by simp [hp])]
        payload := noPayload
        count := by simp
        openEnded := fun _ => h.readOpen hr
        addrInCard := fun _ => h.readInCard hr }
      (h.writePart_of_reading hne rfl rfl (by simp [hc]))
  · exact .of_parts
      { h.card with phases := by simp [phasesAgree, hc, hw] }
      { level := by simp
        payload := noPayload
        count := fun _ hb hn => more ⟨hb, hn⟩
        openEnded := fun _ => h.readOpen hr
        addrInCard := fun _ => inCard_succ ha }
      (h.writePart_of_reading hne rfl rfl (by simp [hc]))

/-- The end of a read, of either kind, leaves the card in Transfer (R268, R269). -/
theorem endRead_keeps {s : State} (h : CoreInvariant s) (hne : s.rdPhase ≠ .rIdle)
    (hg : s.rdPhase ≠ .waitGo) :
    CoreInvariant { s with rdPhase := .rIdle, rdRegPayload := [], cardState := .transfer } := by
  obtain ⟨hc, hw⟩ := h.of_rdPhase_ne hne
  exact AtRest.invariant ⟨rfl, hw, h.readLow hg, h.writeLow (by simp [hw]), rfl⟩ rfl
    (h.rca_eq hc (by decide)) h.eraseInCard h.buffers

theorem hostDataOut_keeps {s : State} (h : CoreInvariant s) : CoreInvariant (hostDataOut s) := by
  obtain ⟨hp, -, -, e⟩ | ⟨hp, more, e⟩ | ⟨hp, e⟩ | ⟨-, -, e⟩ := hostDataOut_cases s <;> rw [e]
  · have noPayload : s.rdRegPayload = [] := h.payload_nil (by simp [hp])
    exact (endRead_keeps h (by simp [hp]) (by simp [hp])).congr (by rw [← noPayload]; rfl)
  · exact readAdvance_keeps (h.congr rfl) hp more
  · exact (endRead_keeps h (by simp [hp]) (by simp [hp])).congr rfl
  · exact h

/-! ## The write sequencer (R276 to R281) -/

theorem landBlock_keeps {s : State} (h : CoreInvariant s) (hp : s.wrPhase = .waitData)
    {bytes : List Byte} (hlen : bytes.length = 512) : CoreInvariant (landBlock bytes s) := by
  have hne : s.wrPhase ≠ .wIdle := by simp [hp]
  have hw : writing s = true := by simp [writing, hp]
  obtain ⟨hr, hc⟩ := h.of_wrPhase_ne hne
  have receiving : s.cardState = .receiveData := by simpa [hp] using hc
  refine .of_parts
    { phases := ?_
      address := ?_
      eraseInCard := h.eraseInCard
      buffers := writeBlock_wf h.buffers .wb hlen.le }
    (h.readPart_of_writing hne rfl rfl rfl)
    { level := by simp [landBlock]
      count := fun _ => h.writeCount hw
      openEnded := fun _ => h.writeOpen hw
      addrInCard := fun _ => ?_
      nextInCard := by simp [landBlock]
      lastBlock := fun hprog => ?_ }
  · by_cases hl : s.xferBounded = true ∧ s.blockWriteNum = 1#32 <;>
      simp [landBlock, phasesAgree, hr, receiving, hl]
  · have hrca := h.rca_eq receiving (by decide)
    by_cases hl : s.xferBounded = true ∧ s.blockWriteNum = 1#32 <;>
      simp [landBlock, addressIn, hrca, receiving, hl]
  · cases hf : s.wrFirst with
    | true => simpa [landBlock, hf] using h.writeInCard hw
    | false => simpa [landBlock, hf] using inCard_succ (h.nextInCard hp hf)
  · by_cases hl : s.xferBounded = true ∧ s.blockWriteNum = 1#32
    · exact .inr hl
    · simp [landBlock, receiving, hl] at hprog

theorem rejectBlock_keeps {s : State} (h : CoreInvariant s) : CoreInvariant (rejectBlock s) :=
  { h with buffers := dropBlock_wf h.buffers .wb }

theorem hostDataIn_keeps {s : State} (h : CoreInvariant s) (bytes : List Byte)
    (crcs : List (BitVec 16)) : CoreInvariant (hostDataIn bytes crcs s) := by
  obtain ⟨hp, good, e⟩ | ⟨-, -, e⟩ | ⟨-, e⟩ := hostDataIn_cases bytes crcs s <;> rw [e]
  · exact landBlock_keeps h hp ((goodBlock_iff _ _ _).1 good).1
  · exact rejectBlock_keeps h
  · exact h

/-- The serviced block was the transfer's last (R280). -/
theorem endWrite_keeps {s : State} (h : CoreInvariant s) (hp : s.wrPhase = .waitDone) :
    CoreInvariant (endWrite (serviceWrite s)) := by
  obtain ⟨hr, hc⟩ := h.of_wrPhase_ne (by simp [hp])
  have address : s.rca = Config.rcaValue := by
    obtain hc | ⟨hc, -⟩ := hc <;> exact h.rca_eq hc (by decide)
  exact AtRest.invariant ⟨hr, rfl, h.readLow (by simp [hr]), rfl, h.payload_nil (by simp [hr])⟩ rfl
    address h.eraseInCard h.buffers

/-- A serviced write of more blocks stays in ReceiveData, waiting for data or halted. -/
theorem serviceWrite_goesOn {s : State} (h : CoreInvariant s) (hp : s.wrPhase = .waitDone)
    (more : ¬(s.xferBounded = true ∧ s.blockWriteNum - 1#32 = 0#32 ∨ s.wrStopping = true))
    {w : WrPhase} (hwi : w ≠ .wIdle) (hwd : w ≠ .waitDone)
    (next : w = .waitData → s.blockWriteAddr.toNat + 1 < Config.capacityBlocks) :
    CoreInvariant { serviceWrite s with wrPhase := w } := by
  obtain ⟨notLast, notStopping⟩ := not_or.1 more
  have hne : s.wrPhase ≠ .wIdle := by simp [hp]
  have hw : writing s = true := by simp [writing, hp]
  obtain ⟨hr, hc⟩ := h.of_wrPhase_ne hne
  have receiving : s.cardState = .receiveData := by
    refine hc.resolve_right fun ⟨hprog, _⟩ => ?_
    obtain hs | ⟨hb, hn⟩ := h.lastBlock hprog
    · exact notStopping hs
    · exact notLast ⟨hb, by simp [hn]⟩
  exact .of_parts
    { h.card with phases := by simp [serviceWrite, phasesAgree, receiving, hr, hwi] }
    (h.readPart_of_writing hne rfl rfl rfl)
    { level := by simp [serviceWrite, hwd]
      count := fun _ (hb : s.xferBounded = true) => by simpa [serviceWrite, hb] using notLast
      openEnded := fun _ (hb : s.xferBounded = false) => by
        simpa [serviceWrite, hb] using h.writeOpen hw hb
      addrInCard := fun _ => h.writeInCard hw
      nextInCard := fun hd _ => next hd
      lastBlock := by simp [serviceWrite, receiving] }

/-- After a serviced block that was not the last the write goes on or halts (R281). -/
theorem writeAdvanceCheck_keeps {s : State} (h : CoreInvariant s) (hp : s.wrPhase = .waitDone)
    (more : ¬(s.xferBounded = true ∧ s.blockWriteNum - 1#32 = 0#32 ∨ s.wrStopping = true)) :
    CoreInvariant (writeAdvanceCheck (serviceWrite s)) := by
  obtain ⟨-, e⟩ | ⟨ha, e⟩ := writeAdvanceCheck_cases (serviceWrite s) <;> rw [e]
  · exact (serviceWrite_goesOn h hp more (w := .wHalted) (by simp) (by simp) (by simp)).congr rfl
  · exact serviceWrite_goesOn h hp more (by simp) (by simp) fun _ => ha

theorem consumerDone_keeps {s : State} (h : CoreInvariant s) : CoreInvariant (consumerDone s) := by
  obtain ⟨hp, -, e⟩ | ⟨hp, more, e⟩ | ⟨-, e⟩ := consumerDone_cases s <;> rw [e]
  · exact endWrite_keeps h hp
  · exact writeAdvanceCheck_keeps h hp more
  · exact h

/-! ## The consumer port (R79, R80) -/

theorem consumerBufRead_keeps {s : State} (h : CoreInvariant s) (a : BitVec 8) :
    CoreInvariant (consumerBufRead a s) := by
  obtain ⟨_, -, e⟩ | ⟨-, e⟩ := consumerBufRead_cases a s <;> rw [e] <;> exact h.congr rfl

theorem consumerBufWrite_keeps {s : State} (h : CoreInvariant s) (a : BitVec 8) (v : Word32) :
    CoreInvariant (consumerBufWrite a v s) := by
  obtain ⟨_, e, -⟩ := consumerBufWrite_eq a v s
  rw [e]
  exact { h with buffers := writeWord_wf h.buffers _ (portIndex_lt a) v }

/-! ## Commands -/

/-- A dispatched command keeps the invariant if its rule does in the legal states. -/
theorem dispatch_keeps {s : State} (h : CoreInvariant s) {legal : List CardState}
    {rule : State → State}
    (keeps : ∀ p, CoreInvariant p → p.cardState ∈ legal → CoreInvariant (rule p)) :
    CoreInvariant (dispatch legal rule s) :=
  dispatch_has (h.congr rfl) (keeps (beginFrame s) (h.congr rfl))

/-- A dispatched command that moves no field the invariant reads keeps it. -/
theorem dispatch_keeps_of_view {s : State} (h : CoreInvariant s) {legal : List CardState}
    {rule : State → State} (view : ∀ p, coreView (rule p) = coreView p) :
    CoreInvariant (dispatch legal rule s) :=
  dispatch_keeps h fun p hp _ => hp.congr (view p)

theorem coreView_ifAddressed {rca : Rca} {rule : State → State}
    (view : ∀ p, coreView (rule p) = coreView p) (p : State) :
    coreView (ifAddressed rca rule p) = coreView p :=
  ifAddressed_has (P := fun t => coreView t = coreView p) rfl (view p)

theorem execGoIdleState_keeps {s : State} (h : CoreInvariant s) :
    NextHas CoreInvariant (execGoIdleState s) := by
  refine nextHas_next.2 (CoreInvariant.congr (s := backToIdle s) (backToIdle_keeps h) ?_)
  cases hd : s.dat3 <;> simp only [beginFrame_dat3, hd] <;> rfl

theorem execAllSendCid_keeps {s : State} (h : CoreInvariant s) :
    NextHas CoreInvariant (execAllSendCid s) := by
  refine nextHas_next.2 (dispatch_keeps h fun p hp hc => ?_)
  have ready : p.cardState = .ready := List.mem_singleton.1 hc
  have rca : p.rca = 0#16 := by rw [hp.address, ready]; rfl
  exact (hp.move (by rw [ready]; rfl) (c := .identification) rfl rca).congr rfl

theorem execSendRelativeAddr_keeps {s : State} (h : CoreInvariant s) :
    NextHas CoreInvariant (execSendRelativeAddr s) := by
  refine nextHas_next.2 (dispatch_keeps h fun p hp hc => ?_)
  have resting : restingState p.cardState = true := by
    obtain hc | hc : p.cardState = .identification ∨ p.cardState = .standby := by simpa using hc
    all_goals rw [hc]; rfl
  exact (hp.move resting (c := .standby) rfl rfl).congr rfl

theorem execSdSendOpCond_keeps {s : State} (h : CoreInvariant s) (window : BitVec 24) :
    NextHas CoreInvariant (execSdSendOpCond window s) := by
  refine nextHas_next.2 (dispatch_keeps h fun p hp hc => ?_)
  have idle : p.cardState = .idle := List.mem_singleton.1 hc
  have rca : p.rca = 0#16 := by rw [hp.address, idle]; rfl
  by_cases hw : window = 0#24
  · rw [if_pos hw]; exact hp.congr rfl
  · rw [if_neg hw]; exact (hp.move (by rw [idle]; rfl) (c := .ready) rfl rca).congr rfl

/-- CMD7: to Transfer for the card's own RCA, and back to Idle for any other (R198, R200). -/
theorem execSelectDeselectCard_keeps {s : State} (h : CoreInvariant s) (rca : Rca) :
    NextHas CoreInvariant (execSelectDeselectCard rca s) := by
  refine nextHas_next.2 ?_
  by_cases own : rca = s.rca
  · rw [if_pos own]
    refine dispatch_keeps h fun p hp hc => ?_
    have selectable : restingState p.cardState = true ∧ p.rca = Config.rcaValue := by
      obtain hc | hc : p.cardState = .standby ∨ p.cardState = .transfer := by simpa using hc
      all_goals exact ⟨by rw [hc]; rfl, hp.rca_eq hc (by decide)⟩
    exact (hp.move selectable.1 (c := .transfer) rfl selectable.2).congr rfl
  · rw [if_neg own]
    exact (backToIdle_keeps h).congr rfl

theorem execSwitchFunc_keeps {s : State} (h : CoreInvariant s) (mode : BitVec 1)
    (groups : BitVec 27) (fg1 : BitVec 4) :
    NextHas CoreInvariant (execSwitchFunc mode groups fg1 s) := by
  refine nextHas_next.2 (dispatch_keeps h fun p hp hc => ?_)
  exact (offerRegister_keeps hp (List.mem_singleton.1 hc)
    (.inr (Config.switchStatus (mode ++ groups ++ fg1) Config.enableHs).length_toList)).congr rfl

theorem execSendScr_keeps {s : State} (h : CoreInvariant s) :
    NextHas CoreInvariant (execSendScr s) := by
  refine nextHas_next.2 (dispatch_keeps h fun p hp hc => ?_)
  exact (offerRegister_keeps hp (List.mem_singleton.1 hc) (payload := scrBytes Config.scrValue)
    (.inl (by simp [scrBytes]))).congr rfl

theorem execStopTransmission_keeps {s : State} (h : CoreInvariant s) :
    NextHas CoreInvariant (execStopTransmission s) := by
  refine nextHas_next.2 (dispatch_keeps h fun p hp hc => ?_)
  have answered : CoreInvariant (respond (r1b 12#6 (cardStatus p false false)) p) := hp.congr rfl
  obtain hc | hc : p.cardState = .sendData ∨ p.cardState = .receiveData := by simpa using hc
  · simp only [if_pos hc]
    exact (stopRead_keeps answered hc).congr rfl
  · have notSending : p.cardState ≠ .sendData := by simp [hc]
    simp only [if_neg notSending]
    exact (stopWrite_keeps answered hc).congr rfl

theorem execEraseWrBlkStart_keeps {s : State} (h : CoreInvariant s) (addr : Word32) :
    NextHas CoreInvariant (execEraseWrBlkStart addr s) := by
  refine nextHas_next.2 (dispatch_keeps h fun p hp _ => ?_)
  cases ha : outOfRange addr with
  | true => exact hp.congr rfl
  | false =>
    have inRange : inCard addr := (outOfRange_eq_false_iff addr).1 ha
    exact { hp with eraseInCard := ⟨inRange, hp.eraseInCard.2⟩ }

theorem execEraseWrBlkEnd_keeps {s : State} (h : CoreInvariant s) (addr : Word32) :
    NextHas CoreInvariant (execEraseWrBlkEnd addr s) := by
  refine nextHas_next.2 (dispatch_keeps h fun p hp _ => ?_)
  cases ha : outOfRange addr with
  | true => exact hp.congr rfl
  | false =>
    have inRange : inCard addr := (outOfRange_eq_false_iff addr).1 ha
    exact { hp with eraseInCard := ⟨hp.eraseInCard.1, inRange⟩ }

/-- CMD38 comes back to the state it was legal in (R232). -/
theorem execErase_keeps {s : State} (h : CoreInvariant s) :
    NextHas CoreInvariant (execErase s) := by
  refine nextHas_next.2 (dispatch_keeps h fun p hp hc => ?_)
  have transfer : p.cardState = .transfer := List.mem_singleton.1 hc
  exact (hp.move (by rw [transfer]; rfl) (c := .transfer) rfl
    (hp.rca_eq transfer (by decide))).congr rfl

theorem execSendIfCond_keeps {s : State} (h : CoreInvariant s) (vhs : BitVec 4)
    (pattern : BitVec 8) : NextHas CoreInvariant (execSendIfCond vhs pattern s) := by
  refine nextHas_next.2 (dispatch_keeps_of_view h fun p => ?_)
  by_cases hv : vhs = 0b0001#4
  · rw [if_pos hv]; rfl
  · rw [if_neg hv]; rfl

/-- Every command keeps the invariant. -/
theorem exec_keeps {s : State} (h : CoreInvariant s) (i : Instr) :
    NextHas CoreInvariant (exec i s) := by
  cases i with
  | goIdleState _ => exact execGoIdleState_keeps h
  | allSendCid _ => exact execAllSendCid_keeps h
  | sendRelativeAddr _ => exact execSendRelativeAddr_keeps h
  | switchFunc mode groups fg1 => exact execSwitchFunc_keeps h mode groups fg1
  | selectDeselectCard rca _ => exact execSelectDeselectCard_keeps h rca
  | sendIfCond _ vhs pattern => exact execSendIfCond_keeps h vhs pattern
  | stopTransmission _ => exact execStopTransmission_keeps h
  | eraseWrBlkStart addr => exact execEraseWrBlkStart_keeps h addr
  | eraseWrBlkEnd addr => exact execEraseWrBlkEnd_keeps h addr
  | erase _ => exact execErase_keeps h
  | sdSendOpCond _ _ _ window => exact execSdSendOpCond_keeps h window
  | sendScr _ => exact execSendScr_keeps h
  | sendCsd _ _ | sendCid _ _ | sendStatus _ _ | appCmd _ _ =>
    exact nextHas_next.2 (dispatch_keeps_of_view h (coreView_ifAddressed fun _ => rfl))
  | setBlocklen _ | setBlockCount _ | setBusWidth _ _ | setWrBlkEraseCount _ _ =>
    exact nextHas_next.2 (dispatch_keeps_of_view h fun _ => rfl)
  | readSingleBlock addr =>
    exact nextHas_next.2 (dispatch_keeps h fun _ hp hc =>
      (startRead_keeps hp (List.mem_singleton.1 hc) 17#6 startCount_single addr).congr rfl)
  | readMultipleBlock addr =>
    exact nextHas_next.2 (dispatch_keeps h fun _ hp hc =>
      (startRead_keeps hp (List.mem_singleton.1 hc) 18#6 (startCount_multi _) addr).congr rfl)
  | writeBlock addr =>
    exact nextHas_next.2 (dispatch_keeps h fun _ hp hc =>
      (startWrite_keeps hp (List.mem_singleton.1 hc) 24#6 startCount_single addr).congr rfl)
  | writeMultipleBlock addr =>
    exact nextHas_next.2 (dispatch_keeps h fun _ hp hc =>
      (startWrite_keeps hp (List.mem_singleton.1 hc) 25#6 (startCount_multi _) addr).congr rfl)

/-! ## Every event and every step -/

theorem hostCommand_keeps {s : State} (h : CoreInvariant s) (f : Frame) (d : Bool) :
    NextHas CoreInvariant (hostCommand f d s) := by
  obtain ⟨-, e⟩ | ⟨-, e⟩ | ⟨-, e⟩ | ⟨i, -, e⟩ := hostCommand_cases f d s <;> rw [e]
  · exact nextHas_next.2 h
  · exact nextHas_next.2 (h.congr rfl)
  · exact nextHas_next.2 (h.congr rfl)
  · exact exec_keeps (s := { s with dat3 := d }) (h.congr rfl) i

theorem react_keeps {s : State} (h : CoreInvariant s) (e : Event) :
    NextHas CoreInvariant (react e s) := by
  cases e with
  | hostCommand f d => exact hostCommand_keeps h f d
  | hostDataIn bytes crcs => exact nextHas_next.2 (hostDataIn_keeps h bytes crcs)
  | hostDataOut => exact nextHas_next.2 (hostDataOut_keeps h)
  | consumerGo => exact nextHas_next.2 (consumerGo_keeps h)
  | consumerDone => exact nextHas_next.2 (consumerDone_keeps h)
  | consumerBufRead a => exact nextHas_next.2 (consumerBufRead_keeps h a)
  | consumerBufWrite a v => exact nextHas_next.2 (consumerBufWrite_keeps h a v)
  | consumerStatusRead o => exact nextHas_next.2 (h.congr rfl)
  | reset => exact nextHas_next.2 (platformReset_keeps h)

theorem step_keeps {s : State} (h : CoreInvariant s) : NextHas CoreInvariant (step s) := by
  cases hi : s.inputs with
  | nil => rw [step_nil hi]; exact nextHas_next.2 h
  | cons e rest =>
    rw [step_cons hi]
    exact react_keeps (s := { s with inputs := rest }) (h.congr rfl) e

/-- Settles O50: every event keeps the invariant, the transfers through their own clauses and the
rest through the fields the invariant reads. -/
theorem stepKeepsTheInvariant : Obligations.StepKeepsTheInvariant :=
  fun _ t h e => step_keeps h t e

/-- Settles O2: at power-up both sequencers are at rest. -/
theorem powerUpMeetsTheInvariant : Obligations.PowerUpMeetsTheInvariant := reset_invariant

/-- Settles O1: the fields by evaluation, the buffers because no byte is listed. -/
theorem powerUpValues : Obligations.PowerUpValues := by
  have unwritten (b : Buf) (i : Nat) : readWord [] b i = none := rfl
  simp [Obligations.PowerUpValues, faultFree, unwritten, State.reset]

/-! ## The buffers and the fault record (R48, R316) -/

/-- The buffers and the fault record, which no command writes, are the same in both states. -/
def SameStore (s t : State) : Prop := t.mem = s.mem ∧ t.faults = s.faults

theorem dispatch_sameStore {s : State} {legal : List CardState} {rule : State → State}
    (same : ∀ p, SameStore p (rule p)) : SameStore s (dispatch legal rule s) :=
  dispatch_has (P := SameStore s) ⟨rfl, rfl⟩ fun _ => same (beginFrame s)

theorem ifAddressed_sameStore {rca : Rca} {rule : State → State}
    (same : ∀ p, SameStore p (rule p)) (p : State) : SameStore p (ifAddressed rca rule p) :=
  ifAddressed_has ⟨rfl, rfl⟩ (same p)

theorem startRead_sameStore (index : BitVec 6) (count : Bool × Word32) (a : Word32) (p : State) :
    SameStore p (startRead index count a p) := by
  obtain ⟨-, e⟩ | ⟨-, e⟩ := startRead_cases index count a p <;> rw [e] <;> exact ⟨rfl, rfl⟩

theorem startWrite_sameStore (index : BitVec 6) (count : Bool × Word32) (a : Word32) (p : State) :
    SameStore p (startWrite index count a p) := by
  obtain ⟨-, e⟩ | ⟨-, e⟩ := startWrite_cases index count a p <;> rw [e] <;> exact ⟨rfl, rfl⟩

theorem stopWrite_sameStore (s : State) : SameStore s (stopWrite s) := by
  unfold stopWrite
  split <;> exact ⟨rfl, rfl⟩

/-- No command writes a buffer or the fault record. -/
theorem exec_sameStore (i : Instr) (s : State) : NextHas (SameStore s) (exec i s) := by
  cases i with
  | goIdleState _ =>
    refine nextHas_next.2 ?_
    cases hd : s.dat3 <;> simp only [beginFrame_dat3, hd] <;> exact ⟨rfl, rfl⟩
  | selectDeselectCard rca _ =>
    refine nextHas_next.2 ?_
    by_cases own : rca = s.rca
    · rw [if_pos own]; exact dispatch_sameStore fun _ => ⟨rfl, rfl⟩
    · rw [if_neg own]; exact ⟨rfl, rfl⟩
  | sendIfCond _ vhs pattern =>
    refine nextHas_next.2 (dispatch_sameStore fun p => ?_)
    by_cases hv : vhs = 0b0001#4
    · rw [if_pos hv]; exact ⟨rfl, rfl⟩
    · rw [if_neg hv]; exact ⟨rfl, rfl⟩
  | stopTransmission _ =>
    refine nextHas_next.2 (dispatch_sameStore fun p => ?_)
    by_cases hc : p.cardState = .sendData
    · simp only [if_pos hc]; exact ⟨rfl, rfl⟩
    · simp only [if_neg hc]; exact stopWrite_sameStore _
  | eraseWrBlkStart addr | eraseWrBlkEnd addr =>
    refine nextHas_next.2 (dispatch_sameStore fun p => ?_)
    cases ha : outOfRange addr <;> exact ⟨rfl, rfl⟩
  | sendCsd _ _ | sendCid _ _ | sendStatus _ _ | appCmd _ _ =>
    exact nextHas_next.2 (dispatch_sameStore (ifAddressed_sameStore fun _ => ⟨rfl, rfl⟩))
  | readSingleBlock addr =>
    exact nextHas_next.2 (dispatch_sameStore fun p => startRead_sameStore 17#6 _ addr p)
  | readMultipleBlock addr =>
    exact nextHas_next.2 (dispatch_sameStore fun p => startRead_sameStore 18#6 _ addr p)
  | writeBlock addr =>
    exact nextHas_next.2 (dispatch_sameStore fun p => startWrite_sameStore 24#6 _ addr p)
  | writeMultipleBlock addr =>
    exact nextHas_next.2 (dispatch_sameStore fun p => startWrite_sameStore 25#6 _ addr p)
  | allSendCid _ | sendRelativeAddr _ | switchFunc _ _ _ | setBlocklen _ | setBlockCount _
  | erase _ | setBusWidth _ _ | setWrBlkEraseCount _ _ | sdSendOpCond _ _ _ _ | sendScr _ =>
    exact nextHas_next.2 (dispatch_sameStore fun _ => ⟨rfl, rfl⟩)

theorem hostCommand_sameStore (f : Frame) (d : Bool) (s : State) :
    NextHas (SameStore s) (hostCommand f d s) := by
  obtain ⟨-, e⟩ | ⟨-, e⟩ | ⟨-, e⟩ | ⟨i, -, e⟩ := hostCommand_cases f d s <;> rw [e]
  · exact nextHas_next.2 ⟨rfl, rfl⟩
  · exact nextHas_next.2 ⟨rfl, rfl⟩
  · exact nextHas_next.2 ⟨rfl, rfl⟩
  · exact exec_sameStore i _

theorem hostDataIn_faults (bytes : List Byte) (crcs : List (BitVec 16)) (s : State) :
    (hostDataIn bytes crcs s).faults = s.faults := by
  obtain ⟨-, -, e⟩ | ⟨-, -, e⟩ | ⟨-, e⟩ := hostDataIn_cases bytes crcs s <;> rw [e] <;> rfl

theorem hostDataOut_sameStore (s : State) : SameStore s (hostDataOut s) := by
  obtain ⟨-, -, -, e⟩ | ⟨-, -, e⟩ | ⟨-, e⟩ | ⟨-, -, e⟩ := hostDataOut_cases s <;> rw [e]
  · exact ⟨rfl, rfl⟩
  · obtain ⟨-, e'⟩ | ⟨-, e'⟩ := readAdvance_cases (sendBuffer s)
    all_goals rw [e']; exact ⟨rfl, rfl⟩
  · exact ⟨rfl, rfl⟩
  · exact ⟨rfl, rfl⟩

theorem consumerGo_sameStore (s : State) : SameStore s (consumerGo s) := by
  obtain ⟨-, e⟩ | ⟨-, e⟩ := consumerGo_cases s <;> rw [e] <;> exact ⟨rfl, rfl⟩

theorem consumerDone_sameStore (s : State) : SameStore s (consumerDone s) := by
  obtain ⟨-, -, e⟩ | ⟨-, -, e⟩ | ⟨-, e⟩ := consumerDone_cases s <;> rw [e]
  · exact ⟨rfl, rfl⟩
  · obtain ⟨-, e'⟩ | ⟨-, e'⟩ := writeAdvanceCheck_cases (serviceWrite s)
    all_goals rw [e']; exact ⟨rfl, rfl⟩
  · exact ⟨rfl, rfl⟩

theorem consumerBufRead_sameStore (a : BitVec 8) (s : State) :
    SameStore s (consumerBufRead a s) := by
  obtain ⟨_, -, e⟩ | ⟨-, e⟩ := consumerBufRead_cases a s <;> rw [e] <;> exact ⟨rfl, rfl⟩

/-- An event other than a consumer write leaves the fault record as it is. -/
theorem react_faults {e : Event} (notWrite : ∀ a v, e ≠ .consumerBufWrite a v) (s : State) :
    NextHas (fun t => t.faults = s.faults) (react e s) := by
  cases e with
  | hostCommand f d => exact fun t ht => (hostCommand_sameStore f d s t ht).2
  | hostDataIn bytes crcs => exact nextHas_next.2 (hostDataIn_faults bytes crcs s)
  | hostDataOut => exact nextHas_next.2 (hostDataOut_sameStore s).2
  | consumerGo => exact nextHas_next.2 (consumerGo_sameStore s).2
  | consumerDone => exact nextHas_next.2 (consumerDone_sameStore s).2
  | consumerBufRead a => exact nextHas_next.2 (consumerBufRead_sameStore a s).2
  | consumerBufWrite a v => exact absurd rfl (notWrite a v)
  | consumerStatusRead o => exact nextHas_next.2 rfl
  | reset => exact nextHas_next.2 rfl

/-- A consumer write adds the fault of its race, if there is one, and removes none (R80). -/
theorem consumerBufWrite_faults (a : BitVec 8) (v : Word32) (s : State) :
    (s.faults.rbRace = true → (consumerBufWrite a v s).faults.rbRace = true) ∧
    (s.faults.wbRace = true → (consumerBufWrite a v s).faults.wbRace = true) ∧
    (writeRace (portBuf a) s = none → (consumerBufWrite a v s).faults = s.faults) := by
  cases h : writeRace (portBuf a) s with
  | none => simp [consumerBufWrite, h]
  | some f => cases f <;> simp [consumerBufWrite, h]

/-- Settles O58: a consumer write is the one event that can change the fault record. -/
theorem faultsComeOnlyFromRaces : Obligations.FaultsComeOnlyFromRaces := by
  intro s t e ht
  rw [step_withEvent] at ht
  by_cases hw : ∃ a v, e = .consumerBufWrite a v
  · obtain ⟨a, v, rfl⟩ := hw
    obtain rfl : consumerBufWrite a v s = t := Host.Outcome.next.inj ht
    simpa [keepsDuty] using consumerBufWrite_faults a v s
  · have same : t.faults = s.faults :=
      react_faults (fun a v h => hw ⟨a, v, h⟩) s t ht
    simp [same]

end Sys2Proof.Machine

/-! PROOFS. The buffers (20_memory.md R70 to R87): what a port access returns and changes, which
events reach a buffer at all, and that the core never reads the write buffer. -/

namespace Sys2Proof.Machine

open Sys2Proof.Statements

/-! ## Bytes, words and the buffers they lie in -/

/-- A word is read from its four bytes alone. -/
theorem readWord_congr {m n : Memory} {b : Buf} {i : Nat}
    (h : ∀ k < 4, readByte n (bufBase b + 4 * i + k) = readByte m (bufBase b + 4 * i + k)) :
    readWord n b i = readWord m b i := by
  have h0 := h 0 (by decide)
  rw [Nat.add_zero] at h0
  simp only [readWord, h0, h 1 (by decide), h 2 (by decide), h 3 (by decide)]

/-- Every byte of a buffer reads alike in both memories. -/
def SameBytes (b : Buf) (m n : Memory) : Prop :=
  ∀ x, bufBase b ≤ x → x < bufBase b + 512 → readByte n x = readByte m x

theorem SameBytes.refl (b : Buf) (m : Memory) : SameBytes b m m := fun _ _ _ => rfl

theorem SameBytes.readByte_eq {b : Buf} {m n : Memory} (h : SameBytes b m n) {i k : Nat}
    (hi : i < 128) (hk : k < 4) :
    readByte n (bufBase b + 4 * i + k) = readByte m (bufBase b + 4 * i + k) :=
  h _ (by omega) (by omega)

theorem SameBytes.readWord_eq {b : Buf} {m n : Memory} (h : SameBytes b m n) {i : Nat}
    (hi : i < 128) : readWord n b i = readWord m b i :=
  readWord_congr fun _ => h.readByte_eq hi

/-- The two buffers have no address in common (log 4). -/
theorem outside_of_ne {b c : Buf} (h : c ≠ b) {x : Nat} (lo : bufBase c ≤ x)
    (hi : x < bufBase c + 512) : x < bufBase b ∨ bufBase b + 512 ≤ x := by
  cases b <;> cases c <;> simp [bufBase] at h lo hi ⊢ <;> omega

/-! ## One word written (R78) -/

/-- A word write leaves every byte of every other word. -/
theorem readByte_writeWord_otherWord (m : Memory) {b c : Buf} {i j k : Nat} (v : Word32)
    (hi : i < 128) (hj : j < 128) (hk : k < 4) (h : ¬(c = b ∧ j = i)) :
    readByte (writeWord m b i v) (bufBase c + 4 * j + k) =
      readByte m (bufBase c + 4 * j + k) := by
  refine readByte_writeWord_outside m b i v _ ?_
  by_cases hc : c = b
  · subst hc
    have : j ≠ i := fun hji => h ⟨rfl, hji⟩
    omega
  · have := outside_of_ne hc (x := bufBase c + 4 * j + k) (by omega) (by omega)
    omega

theorem readWord_writeWord (m : Memory) {b c : Buf} {i j : Nat} (v : Word32) (hi : i < 128)
    (hj : j < 128) :
    readWord (writeWord m b i v) c j = if c = b ∧ j = i then some v else readWord m c j := by
  by_cases h : c = b ∧ j = i
  · obtain ⟨rfl, rfl⟩ := h
    simp [readWord_writeWord_same]
  · rw [if_neg h, readWord_congr fun k hk => readByte_writeWord_otherWord m v hi hj hk h]

theorem writeWord_sameBytes (m : Memory) {b c : Buf} (h : c ≠ b) {i : Nat} (hi : i < 128)
    (v : Word32) : SameBytes c m (writeWord m b i v) := fun x lo hx => by
  have := outside_of_ne h lo hx
  exact readByte_writeWord_outside m b i v x (by omega)

/-! ## One block landed or dropped (R276) -/

theorem writeBlock_sameBytes (m : Memory) {b c : Buf} (h : c ≠ b) {bytes : List Byte}
    (hlen : bytes.length = 512) : SameBytes c m (writeBlock m b bytes) := fun x lo hi => by
  have := outside_of_ne h lo hi
  rw [readByte_writeBlock m b bytes hlen, if_neg (by omega)]

theorem dropBlock_sameBytes (m : Memory) {b c : Buf} (h : c ≠ b) :
    SameBytes c m (dropBlock m b) := fun x lo hi => by
  have := outside_of_ne h lo hi
  rw [readByte_dropBlock, if_neg (by omega)]

theorem readByte_writeBlock_inside (m : Memory) (b : Buf) {bytes : List Byte}
    (hlen : bytes.length = 512) {n : Nat} (hn : n < 512) :
    readByte (writeBlock m b bytes) (bufBase b + n) = some (bytes.getD n 0#8) := by
  rw [readByte_writeBlock m b bytes hlen, if_pos (by omega), Nat.add_sub_cancel_left]
  simp [hlen, hn]

/-- Every word of a landed block is its four bytes, most significant first (R74). -/
theorem readWord_writeBlock (m : Memory) (b : Buf) {bytes : List Byte}
    (hlen : bytes.length = 512) {i : Nat} (hi : i < 128) :
    readWord (writeBlock m b bytes) b i =
      some (bytes.getD (4 * i) 0#8 ++ bytes.getD (4 * i + 1) 0#8
        ++ bytes.getD (4 * i + 2) 0#8 ++ bytes.getD (4 * i + 3) 0#8) := by
  have landed : ∀ n < 512, readByte (writeBlock m b bytes) (bufBase b + n) =
      some (bytes.getD n 0#8) := fun _ => readByte_writeBlock_inside m b hlen
  simp only [readWord, Nat.add_assoc, landed (4 * i) (by omega), landed (4 * i + 1) (by omega),
    landed (4 * i + 2) (by omega), landed (4 * i + 3) (by omega)]
  rfl

/-! ## The consumer port (R79, R80) -/

theorem portBuf_eq_wb {a : BitVec 8} (h : a.getLsbD 7 = true) : portBuf a = .wb := if_pos h

theorem portBuf_eq_rb {a : BitVec 8} (h : a.getLsbD 7 = false) : portBuf a = .rb :=
  if_neg (Bool.eq_false_iff.1 h)

/-- What a consumer write does in every state: the word, and the fault of its race. -/
theorem consumerBufWrite_eq_update (a : BitVec 8) (v : Word32) (s : State) :
    consumerBufWrite a v s =
      { s with
        mem := writeWord s.mem (portBuf a) (portIndex a) v
        faults :=
          { rbRace := s.faults.rbRace || (!a.getLsbD 7 && decide (s.rdPhase = .sending))
            wbRace := s.faults.wbRace || (a.getLsbD 7 && decide (s.wrPhase = .waitData)) } } := by
  cases ha : a.getLsbD 7 with
  | false =>
    by_cases race : s.rdPhase = .sending <;>
      simp [consumerBufWrite, portBuf_eq_rb ha, writeRace, recordFault, race]
  | true =>
    by_cases race : s.wrPhase = .waitData <;>
      simp [consumerBufWrite, portBuf_eq_wb ha, writeRace, recordFault, race]

/-- Settles O47: the update of a consumer write, whatever state it meets. -/
theorem consumerWriteAlwaysLands : Obligations.ConsumerWriteAlwaysLands :=
  fun s a v => congrArg _ (consumerBufWrite_eq_update a v s)

/-- Settles O46: word by word through read after write, byte by byte outside the word. -/
theorem consumerWriteIsIsolated : Obligations.ConsumerWriteIsIsolated := by
  intro s t a v ht
  obtain rfl : consumerBufWrite a v s = t := Host.Outcome.next.inj ht
  rw [consumerBufWrite_eq_update]
  exact ⟨fun b i hi => readWord_writeWord s.mem v (portIndex_lt a) hi,
    fun x hx => readByte_writeWord_outside s.mem _ _ v x hx⟩

theorem readRaces_portBuf_iff (a : BitVec 8) (s : State) :
    readRaces (portBuf a) s = true ↔ a.getLsbD 7 = true ∧ s.wrPhase = .waitData := by
  cases ha : a.getLsbD 7 with
  | false => simp [readRaces, portBuf_eq_rb ha]
  | true => simp [readRaces, portBuf_eq_wb ha]

theorem portWord_eq_none_iff (a : BitVec 8) (s : State) :
    portWord a s = none ↔ (a.getLsbD 7 = true ∧ s.wrPhase = .waitData) ∨
      readWord s.mem (portBuf a) (portIndex a) = none := by
  rw [← readRaces_portBuf_iff]
  cases h : readRaces (portBuf a) s <;> simp [portWord, h]

/-- Outside the race with the host's stream the port finds the word in the buffer. -/
theorem portWord_eq_readWord {a : BitVec 8} {s : State}
    (h : ¬(a.getLsbD 7 = true ∧ s.wrPhase = .waitData)) :
    portWord a s = readWord s.mem (portBuf a) (portIndex a) := by
  rw [← readRaces_portBuf_iff] at h
  rw [portWord, if_neg h]

theorem consumerBufRead_of_some {a : BitVec 8} {s : State} {w : Word32}
    (h : portWord a s = some w) : consumerBufRead a s = { s with portData := w } := by
  simp [consumerBufRead, h]

theorem consumerBufRead_of_none {a : BitVec 8} {s : State} (h : portWord a s = none) :
    consumerBufRead a s = { s with portData := Config.freeWord s.draws, draws := s.draws + 1 } := by
  simp [consumerBufRead, h]

/-! ## The status outputs (R30 to R42, R84) -/

/-- A status read answers the output's word and changes nothing else. -/
theorem statusReads_of_eq {s : State} {o : StatusOutput} {v : Word32} (h : statusValue s o = v) :
    statusReads s o v := h ▸ rfl

theorem flagWord_eq (b : Bool) : (BitVec.ofBool b).setWidth 32 = flagWord b := by
  cases b <;> rfl

/-- Settles O45: the buffer reads by what the port finds, the outputs one by one. -/
theorem consumerReadsReturnTheirValue : Obligations.ConsumerReadsReturnTheirValue := by
  have codes : ∀ p ∈ [(CardState.idle, 0#32), (.ready, 1#32), (.identification, 2#32),
      (.standby, 3#32), (.transfer, 4#32), (.sendData, 5#32), (.receiveData, 6#32),
      (.programming, 7#32), (.disconnect, 8#32)], p.1.code.setWidth 32 = p.2 := by decide
  have flag {s : State} {o : StatusOutput} {b : Bool}
      (h : statusValue s o = (BitVec.ofBool b).setWidth 32) : statusReads s o (flagWord b) :=
    statusReads_of_eq (h.trans (flagWord_eq b))
  intro s
  refine ⟨fun a h => ?_, fun a w noRace h => ?_,
    fun p hp hc => statusReads_of_eq ((congrArg (·.code.setWidth 32) hc).trans (codes p hp)),
    flag rfl, rfl, rfl, flag rfl, flag rfl, rfl, rfl, statusReads_of_eq ?_, rfl, rfl,
    flag rfl, flag rfl, flag rfl, flag rfl, flag rfl, flag rfl, flag rfl⟩
  · exact congrArg _ (consumerBufRead_of_none ((portWord_eq_none_iff a s).2 h))
  · exact congrArg _ (consumerBufRead_of_some ((portWord_eq_readWord noRace).trans h))
  · exact BitVec.setWidth_eq_append (by decide)

/-! ## What an event does to the buffers -/

/-- All that an event can make of the buffers of a state: a host block reaches the write buffer
while one is awaited, a consumer write its word, and nothing else reaches them. -/
inductive BufferChange (s : State) : Event → Memory → Prop
  | keep (e : Event) : BufferChange s e s.mem
  | land {bytes : List Byte} {crcs : List (BitVec 16)} (waiting : s.wrPhase = .waitData)
      (whole : bytes.length = 512) :
      BufferChange s (.hostDataIn bytes crcs) (writeBlock s.mem .wb bytes)
  | drop {bytes : List Byte} {crcs : List (BitVec 16)} (waiting : s.wrPhase = .waitData) :
      BufferChange s (.hostDataIn bytes crcs) (dropBlock s.mem .wb)
  | port (a : BitVec 8) (v : Word32) :
      BufferChange s (.consumerBufWrite a v) (writeWord s.mem (portBuf a) (portIndex a) v)

theorem SameStore.bufferChange {s t : State} (h : SameStore s t) (e : Event) :
    BufferChange s e t.mem := by
  rw [h.1]
  exact .keep e

theorem hostDataIn_of_good {bytes : List Byte} {crcs : List (BitVec 16)} {s : State}
    (hp : s.wrPhase = .waitData) (good : goodBlock bytes crcs s.busWidth = true) :
    hostDataIn bytes crcs s = landBlock bytes s := by
  rw [hostDataIn, if_pos hp, if_pos good]

theorem hostDataIn_of_bad {bytes : List Byte} {crcs : List (BitVec 16)} {s : State}
    (hp : s.wrPhase = .waitData) (bad : goodBlock bytes crcs s.busWidth = false) :
    hostDataIn bytes crcs s = rejectBlock s := by
  rw [hostDataIn, if_pos hp, if_neg (Bool.eq_false_iff.1 bad)]

theorem hostDataIn_of_notWaiting {bytes : List Byte} {crcs : List (BitVec 16)} {s : State}
    (hp : s.wrPhase ≠ .waitData) : hostDataIn bytes crcs s = s := if_neg hp

theorem hostDataIn_bufferChange (bytes : List Byte) (crcs : List (BitVec 16)) (s : State) :
    BufferChange s (.hostDataIn bytes crcs) (hostDataIn bytes crcs s).mem := by
  obtain ⟨hp, good, e⟩ | ⟨hp, -, e⟩ | ⟨-, e⟩ := hostDataIn_cases bytes crcs s <;> rw [e]
  · exact .land hp ((goodBlock_iff _ _ _).1 good).1
  · exact .drop hp
  · exact .keep _

theorem react_bufferChange (e : Event) (s : State) :
    NextHas (fun t => BufferChange s e t.mem) (react e s) := by
  cases e with
  | hostCommand f d => exact fun t ht => (hostCommand_sameStore f d s t ht).bufferChange _
  | hostDataIn bytes crcs => exact nextHas_next.2 (hostDataIn_bufferChange bytes crcs s)
  | hostDataOut => exact nextHas_next.2 ((hostDataOut_sameStore s).bufferChange _)
  | consumerGo => exact nextHas_next.2 ((consumerGo_sameStore s).bufferChange _)
  | consumerDone => exact nextHas_next.2 ((consumerDone_sameStore s).bufferChange _)
  | consumerBufRead a => exact nextHas_next.2 ((consumerBufRead_sameStore a s).bufferChange _)
  | consumerBufWrite a v => exact nextHas_next.2 (.port a v)
  | consumerStatusRead o => exact nextHas_next.2 (.keep _)
  | reset => exact nextHas_next.2 (.keep _)

/-- The read buffer changes by consumer writes to it alone (R87). -/
theorem BufferChange.sameBytes_rb {s : State} {e : Event} {m : Memory} (h : BufferChange s e m)
    (notOurs : ∀ a v, e = .consumerBufWrite a v → a.getLsbD 7 = true) :
    SameBytes .rb s.mem m := by
  cases h with
  | keep => exact .refl _ _
  | land _ whole => exact writeBlock_sameBytes _ (by decide) whole
  | drop => exact dropBlock_sameBytes _ (by decide)
  | port a v =>
    have toWb := portBuf_eq_wb (notOurs a v rfl)
    exact writeWord_sameBytes _ (by simp [toWb]) (portIndex_lt a) v

/-- While no block is awaited the write buffer changes by consumer writes to it alone (R87). -/
theorem BufferChange.sameBytes_wb {s : State} {e : Event} {m : Memory} (h : BufferChange s e m)
    (notWaiting : s.wrPhase ≠ .waitData)
    (notOurs : ∀ a v, e = .consumerBufWrite a v → a.getLsbD 7 = false) :
    SameBytes .wb s.mem m := by
  cases h with
  | keep => exact .refl _ _
  | land waiting | drop waiting => exact absurd waiting notWaiting
  | port a v =>
    have toRb := portBuf_eq_rb (notOurs a v rfl)
    exact writeWord_sameBytes _ (by simp [toRb]) (portIndex_lt a) v

/-- Settles O56: of all that can happen to a buffer only a port write reaches the read buffer. -/
theorem readBufferIsTheConsumers : Obligations.ReadBufferIsTheConsumers :=
  fun s t e notOurs ht x hx =>
    (react_bufferChange e s t ht).sameBytes_rb notOurs x (Nat.zero_le x)
      (by simpa [bufBase] using hx)

/-- The port finds the landed word: the phase a block leaves is not the racing one. -/
theorem portWord_landBlock (s : State) {bytes : List Byte} (hlen : bytes.length = 512)
    {a : BitVec 8} (ha : a.getLsbD 7 = true) :
    portWord a (landBlock bytes s) =
      some (bytes.getD (4 * portIndex a) 0#8 ++ bytes.getD (4 * portIndex a + 1) 0#8
        ++ bytes.getD (4 * portIndex a + 2) 0#8 ++ bytes.getD (4 * portIndex a + 3) 0#8) := by
  have noRace : ¬(a.getLsbD 7 = true ∧ (landBlock bytes s).wrPhase = .waitData) := by
    simp [landBlock]
  rw [portWord_eq_readWord noRace, portBuf_eq_wb ha]
  exact readWord_writeBlock s.mem .wb hlen (portIndex_lt a)

/-- Settles O48: the landed block read back, and the frame of every event outside WaitData. -/
theorem landedBlockReadsBack : Obligations.LandedBlockReadsBack := by
  refine ⟨fun s t bytes hp hlen ht a ha => ?_, fun s t e notWaiting notOurs ht =>
    (react_bufferChange e s t ht).sameBytes_wb notWaiting notOurs⟩
  have good := (goodBlock_iff bytes _ s.busWidth).2 ⟨hlen, rfl⟩
  obtain rfl : landBlock bytes s = t :=
    (hostDataIn_of_good hp good).symm.trans (Host.Outcome.next.inj ht)
  exact congrArg _ (consumerBufRead_of_some (portWord_landBlock s hlen ha))

/-! ## Whole words (R73, R81) -/

/-- One word written in all its four bytes or in none. -/
def wholeWord (m : Memory) (b : Buf) (i : Nat) : Prop :=
  (readWord m b i).isSome = true ∨ ∀ k < 4, readByte m (bufBase b + 4 * i + k) = none

theorem wholeWords.word {m : Memory} (h : wholeWords m) (b : Buf) {i : Nat} (hi : i < 128) :
    wholeWord m b i := h b i hi

theorem wholeWord_of_eq_some {m : Memory} {b : Buf} {i : Nat} {w : Word32}
    (h : readWord m b i = some w) : wholeWord m b i := .inl (by simp [h])

/-- Whether a word is whole is a matter of its four bytes. -/
theorem wholeWord.congr {m n : Memory} {b : Buf} {i : Nat} (h : wholeWord m b i)
    (same : ∀ k < 4, readByte n (bufBase b + 4 * i + k) = readByte m (bufBase b + 4 * i + k)) :
    wholeWord n b i := by
  obtain written | unwritten := h
  · exact .inl (readWord_congr same ▸ written)
  · exact .inr fun k hk => (same k hk).trans (unwritten k hk)

theorem writeWord_wholeWords {m : Memory} (h : wholeWords m) (b : Buf) {i : Nat} (hi : i < 128)
    (v : Word32) : wholeWords (writeWord m b i v) := by
  intro c j hj
  by_cases here : c = b ∧ j = i
  · obtain ⟨rfl, rfl⟩ := here
    exact wholeWord_of_eq_some (readWord_writeWord_same m c j v)
  · exact (h.word c hj).congr fun k hk => readByte_writeWord_otherWord m v hi hj hk here

theorem writeBlock_wholeWords {m : Memory} (h : wholeWords m) (b : Buf) {bytes : List Byte}
    (hlen : bytes.length = 512) : wholeWords (writeBlock m b bytes) := by
  intro c i hi
  by_cases here : c = b
  · subst here
    exact wholeWord_of_eq_some (readWord_writeBlock m c hlen hi)
  · exact (h.word c hi).congr fun k hk => (writeBlock_sameBytes m here hlen).readByte_eq hi hk

theorem dropBlock_wholeWords {m : Memory} (h : wholeWords m) (b : Buf) :
    wholeWords (dropBlock m b) := by
  intro c i hi
  by_cases here : c = b
  · subst here
    exact .inr fun k hk => by rw [readByte_dropBlock, if_pos (by omega)]
  · exact (h.word c hi).congr fun k hk => (dropBlock_sameBytes m here).readByte_eq hi hk

theorem BufferChange.wholeWords {s : State} {e : Event} {m : Memory} (h : BufferChange s e m)
    (whole : wholeWords s.mem) : wholeWords m := by
  cases h with
  | keep => exact whole
  | land _ hlen => exact writeBlock_wholeWords whole .wb hlen
  | drop => exact dropBlock_wholeWords whole .wb
  | port a v => exact writeWord_wholeWords whole _ (portIndex_lt a) v

/-- Settles O51: each of the changes an event can make keeps the words whole. -/
theorem stepKeepsWordsWhole : Obligations.StepKeepsWordsWhole := by
  intro s t whole ht
  cases hi : s.inputs with
  | nil =>
    obtain rfl : s = t := Host.Outcome.next.inj ((step_nil hi).symm.trans ht)
    exact whole
  | cons e rest =>
    rw [step_cons hi] at ht
    exact (react_bufferChange e { s with inputs := rest } t ht).wholeWords whole

/-! ## Two runs that differ in the write buffer (R87, guarantee 3) -/

/-- The state with other buffers. -/
def withMem (m : Memory) (s : State) : State := { s with mem := m }

@[simp] theorem withMem_appCmd (m : Memory) (s : State) : (withMem m s).appCmd = s.appCmd := rfl

@[simp] theorem withMem_dat3 (m : Memory) (s : State) : (withMem m s).dat3 = s.dat3 := rfl

@[simp] theorem withMem_rdPhase (m : Memory) (s : State) : (withMem m s).rdPhase = s.rdPhase := rfl

@[simp] theorem withMem_xferBounded (m : Memory) (s : State) :
    (withMem m s).xferBounded = s.xferBounded := rfl

@[simp] theorem withMem_blockReadNum (m : Memory) (s : State) :
    (withMem m s).blockReadNum = s.blockReadNum := rfl

/-- The function neither reads nor writes the buffers. -/
def MemBlind (f : State → State) : Prop := ∀ m s, f (withMem m s) = withMem m (f s)

theorem MemBlind.comp {f g : State → State} (hf : MemBlind f) (hg : MemBlind g) :
    MemBlind (fun s => f (g s)) := fun m s =>
  (congrArg f (hg m s)).trans (hf m (g s))

/-- A case split on what is not in the buffers is blind if its branches are. -/
theorem MemBlind.ite {c : State → Prop} [∀ s, Decidable (c s)] {f g : State → State}
    (hc : ∀ m s, c (withMem m s) ↔ c s) (hf : MemBlind f) (hg : MemBlind g) :
    MemBlind (fun s => if c s then f s else g s) := fun m s => by
  by_cases h : c s
  · simp only [if_pos h, if_pos ((hc m s).2 h), hf m s]
  · simp only [if_neg h, if_neg (mt (hc m s).1 h), hg m s]

/-- The next state of a blind function follows the buffers it is given. -/
theorem MemBlind.next {f : State → State} (hf : MemBlind f) (m : Memory) (s : State) :
    NextHas (fun t => (.next (f (withMem m s)) : Host.Outcome State Fault Refusal) =
      .next (withMem m t)) (.next (f s)) :=
  nextHas_next.2 (congrArg _ (hf m s))

theorem dispatch_memBlind {legal : List CardState} {rule : State → State} (h : MemBlind rule) :
    MemBlind (dispatch legal rule) :=
  .ite (fun _ _ => Iff.rfl) (h.comp fun _ _ => rfl) fun _ _ => rfl

theorem ifAddressed_memBlind {rca : Rca} {rule : State → State} (h : MemBlind rule) :
    MemBlind (ifAddressed rca rule) :=
  .ite (fun _ _ => Iff.rfl) h fun _ _ => rfl

theorem startRead_memBlind (index : BitVec 6) (count : Bool × Word32) (a : Word32) :
    MemBlind (startRead index count a) :=
  .ite (fun _ _ => Iff.rfl) (fun _ _ => rfl) fun _ _ => rfl

theorem startWrite_memBlind (index : BitVec 6) (count : Bool × Word32) (a : Word32) :
    MemBlind (startWrite index count a) :=
  .ite (fun _ _ => Iff.rfl) (fun _ _ => rfl) fun _ _ => rfl

theorem stopWrite_memBlind : MemBlind stopWrite :=
  .ite (fun _ _ => Iff.rfl) (fun _ _ => rfl) fun _ _ => rfl

theorem finish_memBlind (keepCount reported : Bool) : MemBlind (finish keepCount reported) :=
  fun _ _ => rfl

/-- No command depends on the buffers. -/
theorem exec_withMem (i : Instr) (m : Memory) (s : State) :
    NextHas (fun t => exec i (withMem m s) = .next (withMem m t)) (exec i s) := by
  cases i with
  | goIdleState _ =>
    refine nextHas_next.2 ?_
    cases hd : s.dat3 <;>
      simp only [exec, execGoIdleState, beginFrame_dat3, withMem_dat3, hd] <;> rfl
  | selectDeselectCard rca _ =>
    exact MemBlind.next
      (f := fun s => if rca = s.rca then dispatch [.standby, .transfer] selectCard s
        else deselectCard (beginFrame s))
      (.ite (fun _ _ => Iff.rfl) (dispatch_memBlind fun _ _ => rfl) fun _ _ => rfl) m s
  | sendIfCond _ vhs pattern =>
    exact (dispatch_memBlind (.comp (finish_memBlind _ _)
      (.ite (fun _ _ => Iff.rfl) (fun _ _ => rfl) fun _ _ => rfl))).next m s
  | stopTransmission _ =>
    exact (dispatch_memBlind (.comp (finish_memBlind _ _)
      (.ite (fun _ _ => Iff.rfl) (fun _ _ => rfl)
        (stopWrite_memBlind.comp fun _ _ => rfl)))).next m s
  | eraseWrBlkStart addr | eraseWrBlkEnd addr =>
    exact (dispatch_memBlind (.comp (finish_memBlind _ _)
      (.ite (fun _ _ => Iff.rfl) (fun _ _ => rfl) fun _ _ => rfl))).next m s
  | sendCsd _ _ | sendCid _ _ | sendStatus _ _ | appCmd _ _ =>
    exact (dispatch_memBlind (ifAddressed_memBlind fun _ _ => rfl)).next m s
  | readSingleBlock addr =>
    exact (dispatch_memBlind (.comp (finish_memBlind _ _) (startRead_memBlind _ _ addr))).next m s
  | writeBlock addr =>
    exact (dispatch_memBlind (.comp (finish_memBlind _ _) (startWrite_memBlind _ _ addr))).next m s
  | readMultipleBlock addr =>
    exact (dispatch_memBlind (.comp (finish_memBlind _ _)
      fun m p => startRead_memBlind 18#6 (multiBlockCount p.blkCountPending) addr m p)).next m s
  | writeMultipleBlock addr =>
    exact (dispatch_memBlind (.comp (finish_memBlind _ _)
      fun m p => startWrite_memBlind 25#6 (multiBlockCount p.blkCountPending) addr m p)).next m s
  | allSendCid _ | sendRelativeAddr _ | switchFunc _ _ _ | setBlocklen _ | setBlockCount _
  | erase _ | setBusWidth _ _ | setWrBlkEraseCount _ _ | sdSendOpCond _ _ _ _ | sendScr _ =>
    exact (dispatch_memBlind fun _ _ => rfl).next m s

theorem hostCommand_withMem (f : Frame) (d : Bool) (m : Memory) (s : State) :
    NextHas (fun t => hostCommand f d (withMem m s) = .next (withMem m t))
      (hostCommand f d s) := by
  cases h : decode s.appCmd f with
  | notSurfaced | crcFailure | unknown =>
    simp only [hostCommand, withMem_appCmd, h]
    exact nextHas_next.2 rfl
  | command i =>
    simp only [hostCommand, withMem_appCmd, h]
    exact exec_withMem i m _

theorem consumerGo_memBlind : MemBlind consumerGo :=
  .ite (fun _ _ => Iff.rfl) (fun _ _ => rfl) fun _ _ => rfl

theorem readAdvance_memBlind : MemBlind readAdvance :=
  .ite (fun _ _ => Iff.rfl) (fun _ _ => rfl) fun _ _ => rfl

theorem writeAdvanceCheck_memBlind : MemBlind writeAdvanceCheck :=
  .ite (fun _ _ => Iff.rfl) (fun _ _ => rfl) fun _ _ => rfl

theorem consumerDone_memBlind : MemBlind consumerDone :=
  .ite (fun _ _ => Iff.rfl)
    (.ite (fun _ _ => Iff.rfl) (fun _ _ => rfl) (writeAdvanceCheck_memBlind.comp fun _ _ => rfl))
    fun _ _ => rfl

theorem consumerStatusRead_memBlind (o : StatusOutput) : MemBlind (consumerStatusRead o) := by
  intro m s
  cases o <;> rfl

/-- Every word of the read buffer reads alike in both memories. -/
def SameRbWords (m n : Memory) : Prop := ∀ i < 128, readWord n .rb i = readWord m .rb i

theorem SameRbWords.bufWords_eq {m n : Memory} (h : SameRbWords m n) :
    bufWords n .rb = bufWords m .rb :=
  List.map_congr_left fun i hi => h i (List.mem_range.1 hi)

/-- Changes of two memories that both leave the read buffer leave its words alike. -/
theorem SameRbWords.of_sameBytes {m n m' n' : Memory} (h : SameRbWords m n)
    (hm : SameBytes .rb m m') (hn : SameBytes .rb n n') : SameRbWords m' n' := fun i hi => by
  rw [hn.readWord_eq hi, hm.readWord_eq hi, h i hi]

theorem SameRbWords.writeWord {m n : Memory} (h : SameRbWords m n) (b : Buf) {i : Nat}
    (hi : i < 128) (v : Word32) : SameRbWords (writeWord m b i v) (writeWord n b i v) :=
  fun j hj => by rw [readWord_writeWord n v hi hj, readWord_writeWord m v hi hj, h j hj]

/-- The block sent depends on the words of the read buffer alone (R81, R268). -/
theorem sendBuffer_withMem {m : Memory} {s : State} (h : SameRbWords s.mem m) :
    sendBuffer (withMem m s) = withMem m (sendBuffer s) := by
  simp only [sendBuffer, bufBytes, drawsAfter, withMem, h.bufWords_eq]
  rfl

theorem hostDataOut_withMem {m : Memory} {s : State} (h : SameRbWords s.mem m) :
    hostDataOut (withMem m s) = withMem m (hostDataOut s) := by
  cases hp : s.rdPhase with
  | sending =>
    simp only [hostDataOut, withMem_rdPhase, withMem_xferBounded, withMem_blockReadNum, hp,
      sendBuffer_withMem h, readAdvance_memBlind m]
    by_cases last : s.xferBounded = true ∧ s.blockReadNum = 0#32
    · rw [if_pos last, if_pos last]; rfl
    · rw [if_neg last, if_neg last]
  | sendingReg | rIdle | waitGo | rHalted =>
    simp only [hostDataOut, withMem_rdPhase, hp] <;> rfl

/-- A host block is judged without the buffers and lands in the write buffer of either run. -/
theorem hostDataIn_withMem (bytes : List Byte) (crcs : List (BitVec 16)) {m : Memory} {s : State}
    (h : SameRbWords s.mem m) :
    ∃ n, hostDataIn bytes crcs (withMem m s) = withMem n (hostDataIn bytes crcs s) ∧
      SameRbWords (hostDataIn bytes crcs s).mem n := by
  obtain ⟨hp, good, e⟩ | ⟨hp, bad, e⟩ | ⟨hp, e⟩ := hostDataIn_cases bytes crcs s <;> rw [e]
  · have hlen := ((goodBlock_iff _ _ _).1 good).1
    exact ⟨writeBlock m .wb bytes, hostDataIn_of_good (s := withMem m s) hp good,
      h.of_sameBytes (writeBlock_sameBytes _ (by decide) hlen)
        (writeBlock_sameBytes _ (by decide) hlen)⟩
  · exact ⟨dropBlock m .wb, hostDataIn_of_bad (s := withMem m s) hp bad,
      h.of_sameBytes (dropBlock_sameBytes _ (by decide)) (dropBlock_sameBytes _ (by decide))⟩
  · exact ⟨m, hostDataIn_of_notWaiting (s := withMem m s) hp, h⟩

/-- From the buffers `m` the event leads to `t` again, but for the write buffer. -/
def ReactsAlike (m : Memory) (e : Event) (s t : State) : Prop :=
  ∃ n, react e (withMem m s) = .next (withMem n t) ∧ SameRbWords t.mem n

/-- A reaction that leaves the buffers and goes the same way from `m` is alike. -/
theorem ReactsAlike.of_sameStore {m : Memory} {e : Event} {s t : State}
    (h : SameRbWords s.mem m) (store : SameStore s t)
    (other : react e (withMem m s) = .next (withMem m t)) : ReactsAlike m e s t :=
  ⟨m, other, store.1.symm ▸ h⟩

theorem react_alike {m : Memory} {s : State} (h : SameRbWords s.mem m) {e : Event}
    (notRead : ∀ a, e ≠ .consumerBufRead a) : NextHas (ReactsAlike m e s) (react e s) := by
  cases e with
  | hostCommand f d =>
    intro t ht
    exact ReactsAlike.of_sameStore h (hostCommand_sameStore f d s t ht)
      (hostCommand_withMem f d m s t ht)
  | hostDataIn bytes crcs =>
    obtain ⟨n, other, words⟩ := hostDataIn_withMem bytes crcs h
    exact nextHas_next.2 ⟨n, congrArg _ other, words⟩
  | hostDataOut =>
    exact nextHas_next.2
      (ReactsAlike.of_sameStore h (hostDataOut_sameStore s) (congrArg _ (hostDataOut_withMem h)))
  | consumerGo =>
    exact nextHas_next.2
      (ReactsAlike.of_sameStore h (consumerGo_sameStore s) (congrArg _ (consumerGo_memBlind m s)))
  | consumerDone =>
    exact nextHas_next.2
      (ReactsAlike.of_sameStore h (consumerDone_sameStore s)
        (congrArg _ (consumerDone_memBlind m s)))
  | consumerBufRead a => exact absurd rfl (notRead a)
  | consumerBufWrite a v =>
    have other : consumerBufWrite a v (withMem m s) =
        withMem (writeWord m (portBuf a) (portIndex a) v) (consumerBufWrite a v s) := by
      rw [consumerBufWrite_eq_update, consumerBufWrite_eq_update]
      rfl
    exact nextHas_next.2 ⟨_, congrArg Host.Outcome.next other, h.writeWord _ (portIndex_lt a) v⟩
  | consumerStatusRead o =>
    exact nextHas_next.2
      (ReactsAlike.of_sameStore h ⟨rfl, rfl⟩ (congrArg _ (consumerStatusRead_memBlind o m s)))
  | reset => exact nextHas_next.2 (ReactsAlike.of_sameStore h ⟨rfl, rfl⟩ rfl)

/-- Settles O57: every reaction but a consumer read goes the same way from the other buffers. -/
theorem noReactionReadsTheWriteBuffer : Obligations.NoReactionReadsTheWriteBuffer :=
  fun s t _ _ h notRead ht => react_alike (s := s) h notRead t ht

end Sys2Proof.Machine

/-! PROOFS. The encoding (30_encoding.md): the fields of a frame (R90, R91), the checks it passes
(R93), the commands an index stands for (R128 to R131), and that decode and encode agree. -/

namespace Sys2Proof.Machine

open Laws.EncodeFraming (framing)

/-! ## The fields of a frame (R90, R91) -/

/-- The first 40 bits of a frame are its four fields above the CRC. -/
theorem frameHead_eq_append_fields (f : Frame) :
    frameHead f = frameStart f ++ frameTrans f ++ frameIndex f ++ frameArgument f := by
  rw [frameHead, frameStart, frameTrans, frameIndex, frameArgument]
  iterate 3 rw [BitVec.extractLsb'_append_extractLsb'_eq_extractLsb' (by omega)]

theorem frame_eq_head_append (f : Frame) : f = frameHead f ++ frameCrc f ++ frameEnd f := by
  rw [frameHead, frameCrc, frameEnd]
  iterate 2 rw [BitVec.extractLsb'_append_extractLsb'_eq_extractLsb' (by omega)]
  exact BitVec.extractLsb'_eq_self.symm

/-! ## The fields of a frame laid out as R91 says -/

section Layout

variable (lead : BitVec 2) (index : BitVec 6) (arg : BitVec 32) (crc : BitVec 7) (stop : BitVec 1)

theorem frameStart_append :
    frameStart (lead ++ index ++ arg ++ crc ++ stop) = lead.extractLsb' 1 1 := by
  rw [frameStart]
  iterate 4 rw [BitVec.extractLsb'_append_eq_of_le (by decide)]

theorem frameTrans_append :
    frameTrans (lead ++ index ++ arg ++ crc ++ stop) = lead.extractLsb' 0 1 := by
  rw [frameTrans]
  iterate 4 rw [BitVec.extractLsb'_append_eq_of_le (by decide)]

theorem frameIndex_append : frameIndex (lead ++ index ++ arg ++ crc ++ stop) = index := by
  rw [frameIndex]
  iterate 3 rw [BitVec.extractLsb'_append_eq_of_le (by decide)]
  exact BitVec.extractLsb'_append_eq_right

theorem frameArgument_append : frameArgument (lead ++ index ++ arg ++ crc ++ stop) = arg := by
  rw [frameArgument]
  iterate 2 rw [BitVec.extractLsb'_append_eq_of_le (by decide)]
  exact BitVec.extractLsb'_append_eq_right

theorem frameCrc_append : frameCrc (lead ++ index ++ arg ++ crc ++ stop) = crc := by
  rw [frameCrc, BitVec.extractLsb'_append_eq_of_le (by decide)]
  exact BitVec.extractLsb'_append_eq_right

theorem frameEnd_append : frameEnd (lead ++ index ++ arg ++ crc ++ stop) = stop :=
  BitVec.extractLsb'_append_eq_right

theorem frameIndex_encodeFrame : frameIndex (encodeFrame index arg) = index :=
  frameIndex_append ..

theorem frameArgument_encodeFrame : frameArgument (encodeFrame index arg) = arg :=
  frameArgument_append ..

end Layout

/-- Settles O4: the fields tile the frame, and each is read back from where the encoder put it. -/
theorem encodedFieldsAreRecovered : Obligations.EncodedFieldsAreRecovered where
  left f := by rw [← frameHead_eq_append_fields, ← frame_eq_head_append]
  right index arg := ⟨rfl, frameIndex_encodeFrame index arg, frameArgument_encodeFrame index arg⟩

/-! ## Frames that pass the checks (R93, R140) -/

theorem surfaced_iff (f : Frame) :
    surfaced f = true ↔ frameStart f = 0#1 ∧ frameTrans f = 1#1 := by
  simp [surfaced]

theorem crcValid_iff (f : Frame) :
    crcValid f = true ↔ frameCrc f = crc7 (bitsMsb (frameHead f)) ∧ frameEnd f = 1#1 := by
  simp [crcValid]

/-- A frame that passes both checks is the encoder's frame of its index and argument. -/
theorem encodeFrame_of_valid {f : Frame} (hs : surfaced f = true) (hc : crcValid f = true) :
    encodeFrame (frameIndex f) (frameArgument f) = f := by
  obtain ⟨start, trans⟩ := (surfaced_iff f).1 hs
  obtain ⟨crc, stop⟩ := (crcValid_iff f).1 hc
  have head : 0b01#2 ++ frameIndex f ++ frameArgument f = frameHead f := by
    rw [frameHead_eq_append_fields, start, trans]
    rfl
  rw [encodeFrame, head, sealFrame, ← crc, ← stop, ← frame_eq_head_append]

/-- What it takes for a frame to decode to a command (R140, R142). -/
theorem decode_eq_command_iff (app : Bool) (f : Frame) (i : Instr) :
    decode app f = .command i ↔ surfaced f = true ∧ crcValid f = true ∧
      resolve (frameIndex f) app (frameArgument f) = some i := by
  rw [decode]
  split_ifs with hs hc
  · cases resolve (frameIndex f) app (frameArgument f) <;> simp [hs, hc]
  · simp [hc]
  · simp [hs]

/-- The encoder's frame of an index and an argument decodes to the command they resolve to. -/
theorem decode_encodeFrame {app : Bool} {index : BitVec 6} {arg : BitVec 32} {i : Instr}
    (h : resolve index app arg = some i) : decode app (encodeFrame index arg) = .command i := by
  obtain ⟨hs, hc, -⟩ := framing index arg
  rw [decode_eq_command_iff, frameIndex_encodeFrame, frameArgument_encodeFrame]
  exact ⟨hs, hc, h⟩

/-! ## The operands of an argument (R128, R131)

For each layout: the operands are read back from where they were put, and put back they are the
argument.  The library's laws at these widths, which `simp` does not find at literal widths. -/

theorem extractLsb'_append_append {u v w : Nat} (a : BitVec u) (b : BitVec v) (c : BitVec w) :
    (a ++ b ++ c).extractLsb' (v + w) u = a ∧ (a ++ b ++ c).extractLsb' w v = b ∧
      (a ++ b ++ c).extractLsb' 0 w = c := by
  refine ⟨?_, ?_, BitVec.extractLsb'_append_eq_right⟩
  · rw [BitVec.extractLsb'_append_eq_of_le (by omega), Nat.add_sub_cancel]
    exact BitVec.extractLsb'_append_eq_left
  · rw [BitVec.extractLsb'_append_eq_of_le (by omega), Nat.sub_self]
    exact BitVec.extractLsb'_append_eq_right

theorem operands_rca (rca : Rca) (stuff : BitVec 16) :
    (rca ++ stuff).extractLsb' 16 16 = rca ∧ (rca ++ stuff).extractLsb' 0 16 = stuff :=
  ⟨BitVec.extractLsb'_append_eq_left, BitVec.extractLsb'_append_eq_right⟩

theorem argument_rca (arg : BitVec 32) : arg.extractLsb' 16 16 ++ arg.extractLsb' 0 16 = arg :=
  BitVec.extractLsb'_append_extractLsb'

theorem operands_switchFunc (mode : BitVec 1) (groups : BitVec 27) (fg1 : BitVec 4) :
    (mode ++ groups ++ fg1).extractLsb' 31 1 = mode ∧
      (mode ++ groups ++ fg1).extractLsb' 4 27 = groups ∧
      (mode ++ groups ++ fg1).extractLsb' 0 4 = fg1 := by
  refine ⟨?_, ?_, BitVec.extractLsb'_append_eq_right⟩ <;>
    rw [BitVec.extractLsb'_append_eq_of_le (by decide)]
  · exact BitVec.extractLsb'_append_eq_left
  · exact BitVec.extractLsb'_append_eq_right

theorem argument_switchFunc (arg : BitVec 32) :
    arg.extractLsb' 31 1 ++ arg.extractLsb' 4 27 ++ arg.extractLsb' 0 4 = arg := by
  rw [BitVec.extractLsb'_append_extractLsb'_eq_extractLsb' (by omega)]
  exact BitVec.extractLsb'_append_extractLsb'

theorem operands_sendIfCond (stuff : BitVec 20) (vhs : BitVec 4) (pattern : BitVec 8) :
    (stuff ++ vhs ++ pattern).extractLsb' 12 20 = stuff ∧
      (stuff ++ vhs ++ pattern).extractLsb' 8 4 = vhs ∧
      (stuff ++ vhs ++ pattern).extractLsb' 0 8 = pattern := by
  refine ⟨?_, ?_, BitVec.extractLsb'_append_eq_right⟩ <;>
    rw [BitVec.extractLsb'_append_eq_of_le (by decide)]
  · exact BitVec.extractLsb'_append_eq_left
  · exact BitVec.extractLsb'_append_eq_right

theorem argument_sendIfCond (arg : BitVec 32) :
    arg.extractLsb' 12 20 ++ arg.extractLsb' 8 4 ++ arg.extractLsb' 0 8 = arg := by
  rw [BitVec.extractLsb'_append_extractLsb'_eq_extractLsb' (by omega)]
  exact BitVec.extractLsb'_append_extractLsb'

theorem operands_setBusWidth (stuff : BitVec 30) (width : BitVec 2) :
    (stuff ++ width).extractLsb' 2 30 = stuff ∧ (stuff ++ width).extractLsb' 0 2 = width :=
  ⟨BitVec.extractLsb'_append_eq_left, BitVec.extractLsb'_append_eq_right⟩

theorem argument_setBusWidth (arg : BitVec 32) :
    arg.extractLsb' 2 30 ++ arg.extractLsb' 0 2 = arg := BitVec.extractLsb'_append_extractLsb'

theorem operands_setWrBlkEraseCount (stuff : BitVec 9) (count : BitVec 23) :
    (stuff ++ count).extractLsb' 23 9 = stuff ∧ (stuff ++ count).extractLsb' 0 23 = count :=
  ⟨BitVec.extractLsb'_append_eq_left, BitVec.extractLsb'_append_eq_right⟩

theorem argument_setWrBlkEraseCount (arg : BitVec 32) :
    arg.extractLsb' 23 9 ++ arg.extractLsb' 0 23 = arg := BitVec.extractLsb'_append_extractLsb'

theorem operands_sdSendOpCond (stuffHigh hcs : BitVec 1) (stuff : BitVec 6) (window : BitVec 24) :
    (stuffHigh ++ hcs ++ stuff ++ window).extractLsb' 31 1 = stuffHigh ∧
      (stuffHigh ++ hcs ++ stuff ++ window).extractLsb' 30 1 = hcs ∧
      (stuffHigh ++ hcs ++ stuff ++ window).extractLsb' 24 6 = stuff ∧
      (stuffHigh ++ hcs ++ stuff ++ window).extractLsb' 0 24 = window := by
  obtain ⟨high, mid, low⟩ := extractLsb'_append_append stuffHigh hcs stuff
  refine ⟨?_, ?_, ?_, BitVec.extractLsb'_append_eq_right⟩ <;>
    rw [BitVec.extractLsb'_append_eq_of_le (by decide)]
  · exact high
  · exact mid
  · exact low

theorem argument_sdSendOpCond (arg : BitVec 32) :
    arg.extractLsb' 31 1 ++ arg.extractLsb' 30 1 ++ arg.extractLsb' 24 6 ++ arg.extractLsb' 0 24
      = arg := by
  iterate 2 rw [BitVec.extractLsb'_append_extractLsb'_eq_extractLsb' (by omega)]
  exact BitVec.extractLsb'_append_extractLsb'

/-! ## Resolution of an index (R128 to R131) -/

/-- The index and the argument of a command resolve to it under its own `app_cmd` flag. -/
theorem resolve_index_argument (i : Instr) : resolve i.index i.isApp i.argument = some i := by
  cases i <;>
    simp [resolve, standardCommand, applicationCommand, Instr.index, Instr.argument, Instr.isApp,
      operands_rca, operands_switchFunc, operands_sendIfCond, operands_setBusWidth,
      operands_setWrBlkEraseCount, operands_sdSendOpCond]

/-- Settles O7: the frame carries the index and the argument, and they resolve to the command. -/
theorem decodeOfEncodeIsTheCommand : Obligations.DecodeOfEncodeIsTheCommand :=
  fun i => decode_encodeFrame (resolve_index_argument i)

theorem index_argument_of_standardCommand {index : BitVec 6} {arg : BitVec 32} {i : Instr}
    (h : standardCommand index arg = some i) : i.index = index ∧ i.argument = arg := by
  unfold standardCommand at h
  split at h <;> cases h
  all_goals
    exact ⟨BitVec.eq_of_toNat_eq ‹index.toNat = _›.symm,
      by simp [Instr.argument, argument_rca, argument_switchFunc, argument_sendIfCond]⟩

theorem index_argument_of_applicationCommand {index : BitVec 6} {arg : BitVec 32} {i : Instr}
    (h : applicationCommand index arg = some i) : i.index = index ∧ i.argument = arg := by
  unfold applicationCommand at h
  split at h <;> cases h
  all_goals
    exact ⟨BitVec.eq_of_toNat_eq ‹index.toNat = _›.symm,
      by simp [Instr.argument, argument_setBusWidth, argument_setWrBlkEraseCount,
        argument_sdSendOpCond]⟩

/-- Under `app_cmd` an application command comes first, and a standard one is left where the index
is neither taken nor reserved (R129). -/
theorem resolve_true_cases (index : BitVec 6) (arg : BitVec 32) :
    (∃ i, applicationCommand index arg = some i ∧ resolve index true arg = some i) ∨
    (applicationCommand index arg = none ∧ index.toNat ∈ unsupportedApplicationIndex ∧
      resolve index true arg = none) ∨
    (applicationCommand index arg = none ∧ index.toNat ∉ unsupportedApplicationIndex ∧
      resolve index true arg = standardCommand index arg) := by
  cases h : applicationCommand index arg with
  | some i => exact .inl ⟨i, rfl, by simp [resolve, h]⟩
  | none =>
    by_cases hu : index.toNat ∈ unsupportedApplicationIndex
    · exact .inr (.inl ⟨rfl, hu, by simp [resolve, h, hu]⟩)
    · exact .inr (.inr ⟨rfl, hu, by simp [resolve, h, hu]⟩)

/-- The command a pair resolves to has the index and the argument of the pair. -/
theorem index_argument_of_resolve {index : BitVec 6} {app : Bool} {arg : BitVec 32} {i : Instr}
    (h : resolve index app arg = some i) : i.index = index ∧ i.argument = arg := by
  cases app with
  | false => exact index_argument_of_standardCommand h
  | true =>
    obtain ⟨j, ha, e⟩ | ⟨-, -, e⟩ | ⟨-, -, e⟩ := resolve_true_cases index arg <;> rw [e] at h
    · exact index_argument_of_applicationCommand (ha.trans h)
    · cases h
    · exact index_argument_of_standardCommand h

/-- Settles O9: the command carries the frame's index and argument, and the checks fix the rest. -/
theorem encodeOfDecodeIsTheFrame : Obligations.EncodeOfDecodeIsTheFrame := by
  intro app f i h
  obtain ⟨hs, hc, hr⟩ := (decode_eq_command_iff app f i).1 h
  obtain ⟨index, argument⟩ := index_argument_of_resolve hr
  rw [encode, index, argument, encodeFrame_of_valid hs hc]

/-! ## The indices that stand for a command (R128, R130) -/

/-- The rows of R128 with app = 0. -/
def standardIndex : List Nat :=
  [0, 2, 3, 6, 7, 8, 9, 10, 12, 13, 16, 17, 18, 23, 24, 25, 32, 33, 38, 55]

/-- The rows of R128 with app = 1. -/
def applicationIndex : List Nat := [6, 23, 41, 51]

theorem standardCommand_eq_none_iff (index : BitVec 6) (arg : BitVec 32) :
    standardCommand index arg = none ↔ index.toNat ∉ standardIndex := by
  unfold standardCommand
  split <;> simp_all [standardIndex]

theorem applicationCommand_eq_none_iff (index : BitVec 6) (arg : BitVec 32) :
    applicationCommand index arg = none ↔ index.toNat ∉ applicationIndex := by
  unfold applicationCommand
  split <;> simp_all [applicationIndex]

theorem resolve_true_eq_none_iff (index : BitVec 6) (arg : BitVec 32) :
    resolve index true arg = none ↔ index.toNat ∉ applicationIndex ∧
      (index.toNat ∈ unsupportedApplicationIndex ∨ index.toNat ∉ standardIndex) := by
  rw [← applicationCommand_eq_none_iff index arg, ← standardCommand_eq_none_iff index arg]
  obtain ⟨i, ha, e⟩ | ⟨ha, hu, e⟩ | ⟨ha, hu, e⟩ := resolve_true_cases index arg <;>
    simp [*]

/-- Settles O6: an index is unknown by its place in the table of R128 alone, and the table has 64
places. -/
theorem unknownPairsAreTheReservedOnes : Obligations.UnknownPairsAreTheReservedOnes := by
  intro index arg
  rw [resolve, standardCommand_eq_none_iff, resolve_true_eq_none_iff]
  generalize index.toNat = n, index.isLt = hn
  revert n
  decide

/-- A standard command whose index has no application meaning, defined or reserved, resolves under
`app_cmd` as without it (R129). -/
theorem resolve_true_of_standard {index : BitVec 6} {arg : BitVec 32}
    (ha : index.toNat ∉ applicationIndex) (hu : index.toNat ∉ unsupportedApplicationIndex) :
    resolve index true arg = standardCommand index arg := by
  simp [resolve, (applicationCommand_eq_none_iff index arg).2 ha, hu]

/-- Settles O8: no standard command has one of the reserved indices 43 to 49, so the two exclusions
leave it no application meaning. -/
theorem standardCommandSurvivesThePrefix : Obligations.StandardCommandSurvivesThePrefix := by
  intro i hi notTaken notReserved
  have std : standardCommand i.index i.argument = some i := by
    simpa [resolve, hi] using resolve_index_argument i
  have known : i.index.toNat ∈ standardIndex := by
    by_contra h
    simp [(standardCommand_eq_none_iff i.index i.argument).2 h] at std
  have free : ∀ n ∈ standardIndex, n ∉ [13, 22, 42, 18, 25, 26, 38] →
      n ∉ unsupportedApplicationIndex := by decide
  exact decode_encodeFrame
    ((resolve_true_of_standard notTaken (free _ known notReserved)).trans std)

end Sys2Proof.Machine

/-! PROOFS. The CRC7 and single-bit errors (30_encoding.md R92 to R94), the response formats (R101 to
R107), the card status (R110 to R113) and the CRC list of a data block (R116 to R118). -/

namespace Sys2Proof.Machine

/-! ## The CRC7 register (R92) -/

/-- The feedback bit of a shift of the CRC7 register is bit 0 of the result, since the generator has
a constant term. -/
theorem getLsbD_crc7Step_zero (c : BitVec 7) (b : Bool) :
    (crc7Step c b).getLsbD 0 = (c.getLsbD 6 ^^ b) := by
  unfold crc7Step
  split <;> simp_all

/-- What one shift makes of the register determines the feedback bit and the register shifted. -/
theorem crc7Step_inj {c d : BitVec 7} {a b : Bool} (h : crc7Step c a = crc7Step d b) :
    (c.getLsbD 6 ^^ a) = (d.getLsbD 6 ^^ b) ∧ c <<< 1 = d <<< 1 := by
  have fb : (c.getLsbD 6 ^^ a) = (d.getLsbD 6 ^^ b) := by
    rw [← getLsbD_crc7Step_zero, ← getLsbD_crc7Step_zero, h]
  refine ⟨fb, ?_⟩
  unfold crc7Step at h
  rw [fb] at h
  split at h
  · exact (BitVec.xor_left_inj _).1 h
  · exact h

/-- The same bit takes different registers to different registers. -/
theorem crc7Step_injective (b : Bool) : Function.Injective (crc7Step · b) := by
  intro c d h
  obtain ⟨fb, low⟩ := crc7Step_inj h
  apply BitVec.eq_of_getLsbD_eq
  intro i hi
  by_cases h6 : i = 6
  · subst h6
    simpa using fb
  · have := congrArg (·.getLsbD (i + 1)) low
    simpa [BitVec.getLsbD_shiftLeft, show i + 1 < 7 by omega, -BitVec.getLsbD_eq_getElem] using this

/-- Different bits take a register to different registers. -/
theorem crc7Step_ne (c : BitVec 7) {a b : Bool} (h : a ≠ b) : crc7Step c a ≠ crc7Step c b :=
  fun e => h (by simpa using (crc7Step_inj e).1)

theorem foldl_crc7Step_injective (bits : List Bool) :
    Function.Injective (bits.foldl crc7Step) := by
  induction bits with
  | nil => exact fun _ _ h => h
  | cons b bits ih => exact fun _ _ h => crc7Step_injective b (ih h)

/-- One bit set to another value changes the CRC7: the registers differ after that bit, and the bits
that follow keep them different. -/
theorem foldl_crc7Step_set_ne (bits : List Bool) (c : BitVec 7) (n : Nat) (hn : n < bits.length)
    {b : Bool} (hb : b ≠ bits[n]) :
    (bits.set n b).foldl crc7Step c ≠ bits.foldl crc7Step c := by
  induction bits generalizing c n with
  | nil => simp at hn
  | cons a bits ih =>
    cases n with
    | zero => exact fun h => crc7Step_ne c hb (foldl_crc7Step_injective bits h)
    | succ n => exact ih _ n (by simpa using hn) (by simpa using hb)

/-! ## One bit flipped (R94) -/

theorem getLsbD_flip {w : Nat} (x : BitVec w) {p : Nat} (hp : p < w) (k : Nat) :
    (x ^^^ (1#w <<< p)).getLsbD k = (x.getLsbD k ^^ decide (k = p)) := by
  rw [← BitVec.twoPow_eq, BitVec.getLsbD_xor, BitVec.getLsbD_twoPow]
  simp [hp, eq_comm]

/-- A field that does not hold the flipped bit is unchanged. -/
theorem extractLsb'_flip_of_outside {w : Nat} (x : BitVec w) {p start len : Nat} (hp : p < w)
    (h : p < start ∨ start + len ≤ p) :
    (x ^^^ (1#w <<< p)).extractLsb' start len = x.extractLsb' start len := by
  apply BitVec.eq_of_getLsbD_eq
  intro i hi
  simp [getLsbD_flip x hp, hi, show start + i ≠ p by omega]

/-- A field that holds the flipped bit has the one at its place flipped. -/
theorem extractLsb'_flip_of_inside {w : Nat} (x : BitVec w) {q start len : Nat}
    (hq : q < len) (hw : start + len ≤ w) :
    (x ^^^ (1#w <<< (start + q))).extractLsb' start len =
      x.extractLsb' start len ^^^ (1#len <<< q) := by
  apply BitVec.eq_of_getLsbD_eq
  intro i hi
  simp only [BitVec.getLsbD_extractLsb', getLsbD_flip x (show start + q < w by omega),
    getLsbD_flip _ hq, hi, Nat.add_left_cancel_iff, decide_true, Bool.true_and]

theorem flip_ne {w : Nat} (x : BitVec w) {p : Nat} (hp : p < w) : x ^^^ (1#w <<< p) ≠ x := by
  intro h
  have := congrArg (·.getLsbD p) h
  simp [getLsbD_flip x hp] at this

/-- A flipped bit is one entry of the bits in wire order, set to its complement. -/
theorem bitsMsb_flip {w : Nat} (x : BitVec w) {p : Nat} (hp : p < w) :
    bitsMsb (x ^^^ (1#w <<< p)) = (bitsMsb x).set (w - 1 - p) (!x.getLsbD p) := by
  apply List.ext_getElem
  · simp [bitsMsb]
  · intro i hi _
    have hi : i < w := by simpa [bitsMsb] using hi
    simp only [bitsMsb, List.getElem_set, List.getElem_map, List.getElem_range,
      BitVec.getMsbD_eq_getLsbD, getLsbD_flip x hp]
    by_cases e : w - 1 - p = i
    · simp [e, hi, show w - 1 - i = p by omega]
    · simp [e, hi, show w - 1 - i ≠ p by omega]

/-- R94: the generator has more than one term, so a flipped bit changes the CRC7. -/
theorem crc7_bitsMsb_flip_ne {w : Nat} (x : BitVec w) {p : Nat} (hp : p < w) :
    crc7 (bitsMsb (x ^^^ (1#w <<< p))) ≠ crc7 (bitsMsb x) := by
  rw [bitsMsb_flip x hp]
  refine foldl_crc7Step_set_ne _ _ _ (by simp [bitsMsb]; omega) ?_
  simp [bitsMsb, BitVec.getMsbD_eq_getLsbD, show w - 1 - p < w by omega,
    show w - 1 - (w - 1 - p) = p by omega]

/-! ## The fields of a frame with one bit flipped -/

/-- Bits 47 and 46 are the two the surfacing test reads. -/
theorem surfaced_flip_high {f : Frame} (hs : surfaced f = true) {p : Nat} (lo : 46 ≤ p)
    (hi : p < 48) : surfaced (f ^^^ (1#48 <<< p)) = false := by
  obtain ⟨start, trans⟩ := (surfaced_iff f).1 hs
  rw [Bool.eq_false_iff, Ne, surfaced_iff, ← start, ← trans]
  rintro ⟨start', trans'⟩
  obtain rfl | rfl : p = 46 ∨ p = 47 := by omega
  · exact flip_ne (frameTrans f) (p := 0) (by decide)
      ((extractLsb'_flip_of_inside f (start := 46) (by decide) (by decide)).symm.trans trans')
  · exact flip_ne (frameStart f) (p := 0) (by decide)
      ((extractLsb'_flip_of_inside f (start := 47) (by decide) (by decide)).symm.trans start')

theorem surfaced_flip_low (f : Frame) {p : Nat} (hp : p < 46) :
    surfaced (f ^^^ (1#48 <<< p)) = surfaced f := by
  simp only [surfaced, frameStart, frameTrans]
  rw [extractLsb'_flip_of_outside f (by omega) (by omega),
    extractLsb'_flip_of_outside f (by omega) (by omega)]

/-- The bit flipped is in the first 40 bits, whose CRC7 then differs from the one received, or in the
CRC, which then differs from the one computed, or is the end bit. -/
theorem crcValid_flip {f : Frame} (hc : crcValid f = true) {p : Nat} (hp : p < 48) :
    crcValid (f ^^^ (1#48 <<< p)) = false := by
  obtain ⟨crc, stop⟩ := (crcValid_iff f).1 hc
  rw [Bool.eq_false_iff, Ne, crcValid_iff]
  rintro ⟨crc', stop'⟩
  obtain inHead | inCrc | rfl : 8 ≤ p ∨ (1 ≤ p ∧ p < 8) ∨ p = 0 := by omega
  · obtain ⟨q, rfl⟩ := Nat.exists_eq_add_of_le inHead
    rw [frameCrc, extractLsb'_flip_of_outside f hp (by omega), frameHead,
      extractLsb'_flip_of_inside f (by omega) (by decide)] at crc'
    exact crc7_bitsMsb_flip_ne (frameHead f) (by omega) (crc'.symm.trans crc)
  · obtain ⟨q, rfl⟩ := Nat.exists_eq_add_of_le inCrc.1
    rw [frameCrc, extractLsb'_flip_of_inside f (by omega) (by decide), frameHead,
      extractLsb'_flip_of_outside f hp (by omega)] at crc'
    exact flip_ne (frameCrc f) (by omega) (crc'.trans crc.symm)
  · exact flip_ne (frameEnd f) (p := 0) (by decide)
      ((extractLsb'_flip_of_inside f (start := 0) (by decide) (by decide)).symm.trans
        (stop'.trans stop.symm))

/-- Settles O5: the surfacing test reads bits 47 and 46, and the CRC test every other bit. -/
theorem singleBitErrorsAreDetected : Obligations.SingleBitErrorsAreDetected :=
  fun f hs hc _ hp =>
    ⟨fun hi => surfaced_flip_high hs hi hp,
      fun hi => ⟨(surfaced_flip_low f hi).trans hs, crcValid_flip hc hp⟩⟩

/-! ## Written frames -/

/-- Settles O10: each frame is of fixed bits and is decoded by evaluation. -/
theorem writtenFramesDecode : Obligations.WrittenFramesDecode := by
  unfold Obligations.WrittenFramesDecode
  decide +kernel

/-! ## The response formats (R101 to R107) -/

/-- R1 and R1b, field by field (R101, R102). -/
theorem r1_fields (index : BitVec 6) (st : BitVec 32) : ∃ f : Frame,
    r1 index st = .short48 f false ∧ r1b index st = .short48 f true ∧
    frameStart f = 0#1 ∧ frameTrans f = 0#1 ∧ frameIndex f = index ∧ frameArgument f = st ∧
    frameCrc f = crc7 (bitsMsb (frameHead f)) ∧ frameEnd f = 1#1 := by
  obtain ⟨crc, stop⟩ := (crcValid_iff _).1 (crcValid_sealFrame (0b00#2 ++ index ++ st))
  exact ⟨_, rfl, rfl, frameStart_append .., frameTrans_append .., frameIndex_append ..,
    frameArgument_append .., crc, stop⟩

/-- R6 is laid out as R1 with index 3, the RCA and the status field for the card status. -/
theorem r6_eq_r1 (rca : Rca) (st : BitVec 16) : r6 rca st = r1 3#6 (rca ++ st) :=
  congrArg (fun head => Response.short48 (sealFrame head) false) BitVec.append_assoc

/-- R7 is laid out as R1 with index 8, the voltage and the pattern for the card status. -/
theorem r7_eq_r1 (vhs : BitVec 4) (pattern : BitVec 8) :
    r7 vhs pattern = r1 8#6 (0#20 ++ vhs ++ pattern) := by
  have voltage : (0b00#2 ++ 8#6 ++ 0#20 ++ vhs : BitVec 32) = 0b00#2 ++ 8#6 ++ (0#20 ++ vhs) :=
    BitVec.append_assoc
  rw [r7, voltage]
  exact congrArg (fun head => Response.short48 (sealFrame head) false) BitVec.append_assoc

/-- A slice of the argument as bits of the frame. -/
theorem extractLsb'_frameArgument (f : Frame) {start len : Nat} (h : start + len ≤ 32) :
    f.extractLsb' (8 + start) len = (frameArgument f).extractLsb' start len := by
  apply BitVec.eq_of_getLsbD_eq
  intro i hi
  simp [frameArgument, hi, Nat.add_assoc, show start + i < 32 by omega]

/-- R2, part by part (R103). -/
theorem r2_fields (reg : BitVec 128) : ∃ g : BitVec 136, r2 reg = .long136 g ∧
    g.extractLsb' 134 2 = 0#2 ∧ g.extractLsb' 128 6 = 0b111111#6 ∧
    g.extractLsb' 1 127 = reg.extractLsb' 1 127 ∧ g.extractLsb' 0 1 = 1#1 := by
  obtain ⟨lead, index, body⟩ :=
    extractLsb'_append_append 0b00#2 0b111111#6 (reg.extractLsb' 1 127)
  refine ⟨_, rfl, ?_, ?_, ?_, BitVec.extractLsb'_append_eq_right⟩ <;>
    rw [BitVec.extractLsb'_append_eq_of_le (by decide)]
  · exact lead
  · exact index
  · exact body

/-- R3, field by field: no CRC is computed (R104). -/
theorem r3_fields (ocr : BitVec 32) : ∃ f : Frame, r3 ocr = .short48 f false ∧
    frameStart f = 0#1 ∧ frameTrans f = 0#1 ∧ frameIndex f = 0b111111#6 ∧ frameArgument f = ocr ∧
    frameCrc f = 0b1111111#7 ∧ frameEnd f = 1#1 :=
  ⟨_, rfl, frameStart_append .., frameTrans_append .., frameIndex_append ..,
    frameArgument_append .., frameCrc_append .., frameEnd_append ..⟩

/-- Settles O17: R6 and R7 are R1 with their parts for the argument. -/
theorem responseLayouts : Obligations.ResponseLayouts := by
  refine ⟨r1_fields, r2_fields, r3_fields, fun rca st => ?_, fun vhs pattern => ?_⟩
  · obtain ⟨f, e, -, start, trans, index, arg, crc, stop⟩ := r1_fields 3#6 (rca ++ st)
    obtain ⟨high, low⟩ := operands_rca rca st
    refine ⟨f, (r6_eq_r1 rca st).trans e, start, trans, index, ?_, ?_, crc, stop⟩
    · rwa [extractLsb'_frameArgument f (start := 16) (by decide), arg]
    · rwa [extractLsb'_frameArgument f (start := 0) (by decide), arg]
  · obtain ⟨f, e, -, start, trans, index, arg, crc, stop⟩ := r1_fields 8#6 (0#20 ++ vhs ++ pattern)
    obtain ⟨zeros, voltage, echo⟩ := operands_sendIfCond 0#20 vhs pattern
    refine ⟨f, (r7_eq_r1 vhs pattern).trans e, start, trans, index, ?_, ?_, ?_, crc, stop⟩
    · rwa [extractLsb'_frameArgument f (start := 12) (by decide), arg]
    · rwa [extractLsb'_frameArgument f (start := 8) (by decide), arg]
    · rwa [extractLsb'_frameArgument f (start := 0) (by decide), arg]

/-! ## The card status (R110 to R113) -/

theorem getLsbD_statusBit (b : Bool) {j : Nat} (hj : j < 32) (k : Nat) :
    (statusBit b j).getLsbD k = (decide (k = j) && b) := by
  by_cases h : k = j
  · subst h
    simp [statusBit, hj]
  · simp [statusBit, BitVec.getLsbD_ofBool, h]
    omega

/-- The card state code at its place in the card status (R110). -/
theorem getLsbD_codeField (c : BitVec 4) (k : Nat) :
    (c.setWidth 32 <<< 9).getLsbD k = (decide (9 ≤ k ∧ k ≤ 12) && c.getLsbD (k - 9)) := by
  by_cases h : 9 ≤ k ∧ k ≤ 12
  · simp [h, show k < 32 by omega, show ¬k < 9 by omega]
  · obtain h | h : k < 9 ∨ 4 ≤ k - 9 := by omega
    · simp [h, show ¬9 ≤ k by omega]
    · simp [BitVec.getLsbD_of_ge c (k - 9) h, show ¬k ≤ 12 by omega]

theorem getLsbD_cardStatus (p : State) (oor app : Bool) (k : Nat) :
    (cardStatus p oor app).getLsbD k =
      if k = 31 then p.stOutOfRange || oor
      else if k = 23 then p.stComCrcError
      else if k = 22 then p.stIllegalCommand
      else if 9 ≤ k ∧ k ≤ 12 then p.cardState.code.getLsbD (k - 9)
      else if k = 8 then !p.blockWriteAct
      else if k = 5 then app
      else false := by
  simp only [cardStatus, BitVec.getLsbD_or, getLsbD_codeField,
    getLsbD_statusBit _ (show 31 < 32 by decide), getLsbD_statusBit _ (show 23 < 32 by decide),
    getLsbD_statusBit _ (show 22 < 32 by decide), getLsbD_statusBit _ (show 8 < 32 by decide),
    getLsbD_statusBit _ (show 5 < 32 by decide)]
  split_ifs with h31 h23 h22 state ready app
  · simp [h31]
  · simp [h23]
  · simp [h22]
  · simp [h31, h23, h22, state, show k ≠ 8 by omega, show k ≠ 5 by omega]
  · simp [ready]
  · simp [app]
  · simp [h31, h23, h22, state, ready, app]

theorem getLsbD_r6Status (st : BitVec 32) (k : Nat) :
    (r6Status st).getLsbD k =
      if k = 15 then st.getLsbD 23
      else if k = 14 then st.getLsbD 22
      else if k = 13 then st.getLsbD 19
      else if k < 13 then st.getLsbD k
      else false := by
  by_cases high : 16 ≤ k
  · rw [BitVec.getLsbD_of_ge _ k high]
    simp [show ¬k < 13 by omega, show k ≠ 13 by omega, show k ≠ 14 by omega,
      show k ≠ 15 by omega]
  · simp only [r6Status, BitVec.getLsbD_append, BitVec.getLsbD_extractLsb']
    obtain low | rfl | rfl | rfl : k < 13 ∨ k = 13 ∨ k = 14 ∨ k = 15 := by omega
    · simp [low, show k ≠ 13 by omega, show k ≠ 14 by omega, show k ≠ 15 by omega]
    · rfl
    · rfl
    · rfl

/-- Settles O19. -/
theorem statusBits : Obligations.StatusBits := ⟨getLsbD_cardStatus, getLsbD_r6Status⟩

/-! ## The CRC list of a data block (R116 to R118) -/

theorem crc16_append_singleton (bits : List Bool) (b : Bool) :
    crc16 (bits ++ [b]) = crc16Step (crc16 bits) b := by
  simp [crc16]

theorem crc16Step_eq_ite (c : BitVec 16) (b : Bool) :
    crc16Step c b = if c.getLsbD 15 = b then c <<< 1 else (c <<< 1) ^^^ 0x1021#16 := by
  rw [crc16Step]
  cases c.getLsbD 15 <;> cases b <;> rfl

theorem bitsMsb_byte (b : Byte) :
    bitsMsb b = [b.getLsbD 7, b.getLsbD 6, b.getLsbD 5, b.getLsbD 4,
      b.getLsbD 3, b.getLsbD 2, b.getLsbD 1, b.getLsbD 0] := rfl

/-- Settles O18. -/
theorem dataBlockCrcIsWrittenOut : Obligations.DataBlockCrcIsWrittenOut where
  left := rfl
  right := by
    refine ⟨fun bits b => ?_, fun bytes => ⟨?_, rfl⟩⟩
    · rw [crc16_append_singleton, crc16Step_eq_ite]
    · rfl

end Sys2Proof.Machine

/-! PROOFS. The decoder and the link (40_decoder.md R140 to R150): the outcome of a frame for each
answer of the decoder, the rejections, and how long `app_cmd` lasts. -/

namespace Sys2Proof.Machine

open Sys2Proof.Statements

/-! ## Which frames the decoder turns away (R140, R145, R147) -/

theorem decode_eq_notSurfaced_iff (app : Bool) (f : Frame) :
    decode app f = .notSurfaced ↔ surfaced f = false := by
  rw [decode]
  split_ifs with hs hc
  · cases resolve (frameIndex f) app (frameArgument f) <;> simp [hs]
  · simp [hs]
  · simp [hs]

theorem decode_eq_crcFailure_iff (app : Bool) (f : Frame) :
    decode app f = .crcFailure ↔ surfaced f = true ∧ crcValid f = false := by
  rw [decode]
  split_ifs with hs hc
  · cases resolve (frameIndex f) app (frameArgument f) <;> simp [hc]
  · simp [hs, hc]
  · simp [hs]

theorem decode_eq_unknown_iff (app : Bool) (f : Frame) :
    decode app f = .unknown ↔ surfaced f = true ∧ crcValid f = true ∧
      resolve (frameIndex f) app (frameArgument f) = none := by
  rw [decode]
  split_ifs with hs hc
  · cases resolve (frameIndex f) app (frameArgument f) <;> simp [hs, hc]
  · simp [hc]
  · simp [hs]

/-! ## The outcome of a frame, for each answer of the decoder (R142) -/

section Outcomes

variable {f : Frame} {s : State} (d : Bool)

theorem hostCommand_of_notSurfaced (h : decode s.appCmd f = .notSurfaced) :
    hostCommand f d s = .next s := by
  rw [hostCommand, h]

theorem hostCommand_of_crcFailure (h : decode s.appCmd f = .crcFailure) :
    hostCommand f d s = .next (rejectCrc (beginFrame s)) := by
  rw [hostCommand, h]

theorem hostCommand_of_unknown (h : decode s.appCmd f = .unknown) :
    hostCommand f d s = .next (rejectIllegal (beginFrame s)) := by
  rw [hostCommand, h]

theorem hostCommand_of_command {i : Instr} (h : decode s.appCmd f = .command i) :
    hostCommand f d s = exec i { s with dat3 := d } := by
  rw [hostCommand, h]

end Outcomes

/-- Settles O11. -/
theorem stepRunsTheDecodedCommand : Obligations.StepRunsTheDecodedCommand :=
  fun _ _ d _ h _ => hostCommand_of_command d h

/-- Settles O12: the surfacing test is the first the decoder makes. -/
theorem unsurfacedFrameHasNoEffect : Obligations.UnsurfacedFrameHasNoEffect := by
  intro s f d h
  have hs : surfaced f = false := by
    rw [Bool.eq_false_iff, Ne, surfaced_iff, not_and_or]
    exact h
  exact hostCommand_of_notSurfaced d ((decode_eq_notSurfaced_iff s.appCmd f).2 hs)

/-- Settles O13. -/
theorem badCrcIsRejected : Obligations.BadCrcIsRejected := by
  intro s f d start trans bad
  have hs : surfaced f = true := (surfaced_iff f).2 ⟨start, trans⟩
  have hc : crcValid f = false := by
    rw [Bool.eq_false_iff, Ne, crcValid_iff, not_and_or]
    exact bad
  exact hostCommand_of_crcFailure d ((decode_eq_crcFailure_iff s.appCmd f).2 ⟨hs, hc⟩)

/-- Settles O14. -/
theorem unknownCommandIsRejected : Obligations.UnknownCommandIsRejected :=
  fun s f d hs hc hr =>
    hostCommand_of_unknown d ((decode_eq_unknown_iff s.appCmd f).2 ⟨hs, hc, hr⟩)

/-! ## The legality table (R148, R149) -/

def everyState : List CardState :=
  [.idle, .ready, .identification, .standby, .transfer, .sendData, .receiveData, .programming,
    .disconnect]

theorem mem_everyState (c : CardState) : c ∈ everyState := by
  cases c <;> decide

/-- `Legal(c)` for a card with the given RCA: the table of R149, with every state for CMD0 and for
the deselect of CMD7 (R142). -/
def legalStates (own : Rca) : Instr → List CardState
  | .goIdleState _ => everyState
  | .allSendCid _ => [.ready]
  | .sendRelativeAddr _ => [.identification, .standby]
  | .selectDeselectCard rca _ => if rca = own then [.standby, .transfer] else everyState
  | .sendIfCond _ _ _ | .sdSendOpCond _ _ _ _ => [.idle]
  | .sendCsd _ _ | .sendCid _ _ => [.standby]
  | .stopTransmission _ => [.sendData, .receiveData]
  | .sendStatus _ _ =>
    [.standby, .transfer, .sendData, .receiveData, .programming, .disconnect]
  | .appCmd _ _ => [.idle, .standby, .transfer]
  | .switchFunc _ _ _ | .setBlocklen _ | .readSingleBlock _ | .readMultipleBlock _
  | .setBlockCount _ | .writeBlock _ | .writeMultipleBlock _ | .eraseWrBlkStart _
  | .eraseWrBlkEnd _ | .erase _ | .setBusWidth _ _ | .setWrBlkEraseCount _ _ | .sendScr _ =>
    [.transfer]

theorem legalStates_select (own : Rca) (stuff : BitVec 16) :
    legalStates own (.selectDeselectCard own stuff) = [.standby, .transfer] := if_pos rfl

/-- CMD13 is legal once the card is addressed: in all states but those before Standby. -/
theorem mem_legalStates_sendStatus (own rca : Rca) (stuff : BitVec 16) (c : CardState) :
    c ∈ legalStates own (.sendStatus rca stuff) ↔ c ∉ [.idle, .ready, .identification] := by
  cases c <;> simp [legalStates]

theorem rejectIllegal_beginFrame (s : State) : rejectIllegal (beginFrame s) = rejected s := rfl

/-- R148: in a state outside the table a command is rejected. -/
theorem exec_illegal {i : Instr} {s : State} (illegal : s.cardState ∉ legalStates s.rca i) :
    exec i s = .next (rejected s) := by
  cases i with
  | goIdleState _ => exact absurd (mem_everyState _) illegal
  | selectDeselectCard rca _ =>
    by_cases own : rca = s.rca
    · subst own
      rw [legalStates_select] at illegal
      rw [exec, execSelectDeselectCard, if_pos rfl, dispatch_illegal _ illegal,
        rejectIllegal_beginFrame]
    · rw [legalStates, if_neg own] at illegal
      exact absurd (mem_everyState _) illegal
  | _ => exact congrArg Host.Outcome.next (dispatch_illegal _ illegal)

/-- Settles O15: each clause is a row of the table. -/
theorem illegalStateIsRejected : Obligations.IllegalStateIsRejected := by
  intro s
  have outside {c : CardState} (h : s.cardState ≠ c) : s.cardState ∉ [c] :=
    mt List.mem_singleton.1 h
  refine ⟨fun h _ => exec_illegal (outside h), fun h _ => exec_illegal h, fun h a => ?cmd7,
    fun h => ?idle, fun h => ?standby, fun h _ => exec_illegal h, fun h a b => ?cmd13,
    fun h _ _ => exec_illegal h, fun h => ?transfer⟩
  case cmd7 => exact exec_illegal (by rwa [legalStates_select])
  case cmd13 => exact exec_illegal (by rwa [mem_legalStates_sendStatus, not_not])
  case idle | standby | transfer =>
    have illegal := outside h
    and_intros <;> intros <;> exact exec_illegal illegal

/-! ## Frames for another card (R150) -/

theorem dispatch_ifAddressed_other {legal : List CardState} {rca : Rca} {s : State}
    (rule : State → State) (hc : s.cardState ∈ legal) (other : rca ≠ s.rca) :
    dispatch legal (ifAddressed rca rule) s = beginFrame s := by
  rw [dispatch_legal _ hc, ifAddressed, beginFrame_rca, if_neg other]

/-- Settles O16: the addressing check comes before the command's own rule. -/
theorem otherCardsFramesAreIgnored : Obligations.OtherCardsFramesAreIgnored := by
  intro s rca stuff other
  have ignored {legal : List CardState} (rule : State → State) (hc : s.cardState ∈ legal) :
      Host.Outcome.next (φ := Fault) (ρ := Refusal) (dispatch legal (ifAddressed rca rule) s) =
        .next { s with appCmd := false } :=
    congrArg _ (dispatch_ifAddressed_other rule hc other)
  exact ⟨fun h => ignored _ (List.mem_singleton.2 h), fun h => ignored _ (List.mem_singleton.2 h),
    fun h => ignored _ ((mem_legalStates_sendStatus s.rca rca stuff _).2 h), fun h => ignored _ h⟩

/-! ## How long `app_cmd` lasts (R143) -/

/-- The function leaves `app_cmd` as it finds it. -/
def KeepsAppCmd (rule : State → State) : Prop := ∀ p, (rule p).appCmd = p.appCmd

theorem startRead_keepsAppCmd (index : BitVec 6) (count : Bool × Word32) (a : Word32) :
    KeepsAppCmd (startRead index count a) := by
  intro p
  obtain ⟨-, e⟩ | ⟨-, e⟩ := startRead_cases index count a p <;> rw [e] <;> rfl

theorem startWrite_keepsAppCmd (index : BitVec 6) (count : Bool × Word32) (a : Word32) :
    KeepsAppCmd (startWrite index count a) := by
  intro p
  obtain ⟨-, e⟩ | ⟨-, e⟩ := startWrite_cases index count a p <;> rw [e] <;> rfl

theorem stopWrite_keepsAppCmd : KeepsAppCmd stopWrite := by
  intro p
  unfold stopWrite
  split <;> rfl

theorem ifAddressed_keepsAppCmd {rca : Rca} {rule : State → State} (h : KeepsAppCmd rule) :
    KeepsAppCmd (ifAddressed rca rule) :=
  fun p => ifAddressed_has (P := fun t => t.appCmd = p.appCmd) rfl (h p)

/-- A dispatched command whose rule does not touch the flag leaves it cleared. -/
theorem dispatch_clearsAppCmd {legal : List CardState} {rule : State → State}
    (h : KeepsAppCmd rule) (s : State) : (dispatch legal rule s).appCmd = false :=
  dispatch_has (P := fun t => t.appCmd = false) rfl fun _ => h (beginFrame s)

/-- Every command but CMD55 leaves `app_cmd` cleared. -/
theorem exec_clearsAppCmd {i : Instr} (notAppCmd : ∀ rca stuff, i ≠ .appCmd rca stuff)
    (s : State) : NextHas (fun t => t.appCmd = false) (exec i s) := by
  cases i with
  | appCmd rca stuff => exact absurd rfl (notAppCmd rca stuff)
  | goIdleState _ =>
    refine nextHas_next.2 ?_
    cases hd : s.dat3 <;> simp only [beginFrame_dat3, hd] <;> rfl
  | selectDeselectCard rca _ =>
    refine nextHas_next.2 ?_
    by_cases own : rca = s.rca
    · rw [if_pos own]
      refine dispatch_clearsAppCmd (fun p => ?_) s
      rfl
    · rw [if_neg own]; rfl
  | sendIfCond _ vhs pattern =>
    refine nextHas_next.2 (dispatch_clearsAppCmd (fun p => ?_) s)
    by_cases hv : vhs = 0b0001#4
    · rw [if_pos hv]; rfl
    · rw [if_neg hv]; rfl
  | stopTransmission _ =>
    refine nextHas_next.2 (dispatch_clearsAppCmd (fun p => ?_) s)
    by_cases hc : p.cardState = .sendData
    · simp only [if_pos hc]; rfl
    · simp only [if_neg hc]; exact stopWrite_keepsAppCmd _
  | eraseWrBlkStart addr | eraseWrBlkEnd addr =>
    refine nextHas_next.2 (dispatch_clearsAppCmd (fun p => ?_) s)
    cases ha : outOfRange addr <;> rfl
  | sendCsd _ _ | sendCid _ _ | sendStatus _ _ =>
    refine nextHas_next.2 (dispatch_clearsAppCmd (ifAddressed_keepsAppCmd fun p => ?_) s)
    rfl
  | readSingleBlock addr | readMultipleBlock addr =>
    refine nextHas_next.2 (dispatch_clearsAppCmd (fun p => ?_) s)
    exact startRead_keepsAppCmd _ _ addr p
  | writeBlock addr | writeMultipleBlock addr =>
    refine nextHas_next.2 (dispatch_clearsAppCmd (fun p => ?_) s)
    exact startWrite_keepsAppCmd _ _ addr p
  | allSendCid _ | sendRelativeAddr _ | switchFunc _ _ _ | setBlocklen _ | setBlockCount _
  | erase _ | setBusWidth _ _ | setWrBlkEraseCount _ _ | sdSendOpCond _ _ _ _ | sendScr _ =>
    refine nextHas_next.2 (dispatch_clearsAppCmd (fun p => ?_) s)
    rfl

/-- CMD55 sets `app_cmd` only where it is legal and addressed to this card (R180). -/
theorem execAppCmd_setsAppCmd (rca : Rca) (s : State) :
    NextHas (fun t => t.appCmd = true → rca = s.rca ∧ s.cardState ∈ [.idle, .standby, .transfer])
      (execAppCmd rca s) := by
  refine nextHas_next.2 (dispatch_has (P := fun t => t.appCmd = true → _) nofun fun legal => ?_)
  obtain ⟨own, -⟩ | ⟨-, e⟩ := ifAddressed_cases rca _ (beginFrame s)
  · exact fun _ => ⟨own, legal⟩
  · rw [e]; exact nofun

/-- The command that leaves `app_cmd` set is an accepted CMD55. -/
theorem exec_setsAppCmd (i : Instr) (s : State) :
    NextHas (fun t => t.appCmd = true →
      ∃ stuff, i = .appCmd s.rca stuff ∧ s.cardState ∈ [.idle, .standby, .transfer])
      (exec i s) := by
  intro t ht flag
  by_cases h : ∃ rca stuff, i = .appCmd rca stuff
  · obtain ⟨rca, stuff, rfl⟩ := h
    obtain ⟨rfl, legal⟩ := execAppCmd_setsAppCmd rca s t ht flag
    exact ⟨stuff, rfl, legal⟩
  · have cleared := exec_clearsAppCmd (fun rca stuff e => h ⟨rca, stuff, e⟩) s t ht
    exact absurd (flag.symm.trans cleared) nofun

theorem hostCommand_setsAppCmd {f : Frame} (hs : surfaced f = true) (d : Bool) (s : State) :
    NextHas (fun t => t.appCmd = true →
      ∃ stuff, decode s.appCmd f = .command (.appCmd s.rca stuff) ∧
        s.cardState ∈ [.idle, .standby, .transfer]) (hostCommand f d s) := by
  obtain ⟨h, -⟩ | ⟨-, e⟩ | ⟨-, e⟩ | ⟨i, h, e⟩ := hostCommand_cases f d s
  · rw [decode_eq_notSurfaced_iff, hs] at h
    cases h
  · rw [e]; exact nextHas_next.2 nofun
  · rw [e]; exact nextHas_next.2 nofun
  · rw [e]
    intro t ht flag
    obtain ⟨stuff, rfl, legal⟩ := exec_setsAppCmd i { s with dat3 := d } t ht flag
    exact ⟨stuff, h, legal⟩

theorem hostDataIn_keepsAppCmd (bytes : List Byte) (crcs : List (BitVec 16)) :
    KeepsAppCmd (hostDataIn bytes crcs) := by
  intro s
  obtain ⟨-, -, e⟩ | ⟨-, -, e⟩ | ⟨-, e⟩ := hostDataIn_cases bytes crcs s <;> rw [e] <;> rfl

theorem readAdvance_keepsAppCmd : KeepsAppCmd readAdvance := by
  intro s
  obtain ⟨-, e⟩ | ⟨-, e⟩ := readAdvance_cases s <;> rw [e]

theorem hostDataOut_keepsAppCmd : KeepsAppCmd hostDataOut := by
  intro s
  obtain ⟨-, -, -, e⟩ | ⟨-, -, e⟩ | ⟨-, e⟩ | ⟨-, -, e⟩ := hostDataOut_cases s <;> rw [e]
  · rfl
  · exact readAdvance_keepsAppCmd (sendBuffer s)
  · rfl

theorem consumerGo_keepsAppCmd : KeepsAppCmd consumerGo := by
  intro s
  obtain ⟨-, e⟩ | ⟨-, e⟩ := consumerGo_cases s <;> rw [e]

theorem writeAdvanceCheck_keepsAppCmd : KeepsAppCmd writeAdvanceCheck := by
  intro s
  obtain ⟨-, e⟩ | ⟨-, e⟩ := writeAdvanceCheck_cases s <;> rw [e]

theorem consumerDone_keepsAppCmd : KeepsAppCmd consumerDone := by
  intro s
  obtain ⟨-, -, e⟩ | ⟨-, -, e⟩ | ⟨-, e⟩ := consumerDone_cases s <;> rw [e]
  · rfl
  · exact writeAdvanceCheck_keepsAppCmd (serviceWrite s)

theorem consumerBufRead_keepsAppCmd (a : BitVec 8) : KeepsAppCmd (consumerBufRead a) := by
  intro s
  obtain ⟨_, -, e⟩ | ⟨-, e⟩ := consumerBufRead_cases a s <;> rw [e]

theorem consumerBufWrite_keepsAppCmd (a : BitVec 8) (v : Word32) :
    KeepsAppCmd (consumerBufWrite a v) := by
  intro s
  obtain ⟨_, e, -⟩ := consumerBufWrite_eq a v s
  rw [e]

/-- No event but a surfaced frame and `Reset` changes `app_cmd`. -/
theorem react_keepsAppCmd {e : Event} (notReset : e ≠ .reset)
    (unsurfaced : ∀ f d, e = .hostCommand f d → surfaced f = false) (s : State) :
    NextHas (fun t => t.appCmd = s.appCmd) (react e s) := by
  cases e with
  | hostCommand f d =>
    have h := (decode_eq_notSurfaced_iff s.appCmd f).2 (unsurfaced f d rfl)
    rw [react, hostCommand_of_notSurfaced d h]
    exact nextHas_next.2 rfl
  | hostDataIn bytes crcs => exact nextHas_next.2 (hostDataIn_keepsAppCmd bytes crcs s)
  | hostDataOut => exact nextHas_next.2 (hostDataOut_keepsAppCmd s)
  | consumerGo => exact nextHas_next.2 (consumerGo_keepsAppCmd s)
  | consumerDone => exact nextHas_next.2 (consumerDone_keepsAppCmd s)
  | consumerBufRead a => exact nextHas_next.2 (consumerBufRead_keepsAppCmd a s)
  | consumerBufWrite a v => exact nextHas_next.2 (consumerBufWrite_keepsAppCmd a v s)
  | consumerStatusRead o => exact nextHas_next.2 rfl
  | reset => exact absurd rfl notReset

/-- Settles O55: every surfaced frame clears the flag first, and CMD55's rule alone sets it. -/
theorem prefixLastsForOneFrame : Obligations.PrefixLastsForOneFrame :=
  ⟨fun s t _ d hs ht => hostCommand_setsAppCmd hs d s t ht,
    fun s t _ notReset unsurfaced ht => react_keepsAppCmd notReset unsurfaced s t ht⟩

end Sys2Proof.Machine

/-! PROOFS. Identification, addressing and selection (41_identification.md R170 to R200): the next
state each command answers where it is legal and addressed to this card. -/

namespace Sys2Proof.Machine

open Sys2Proof.Statements

/-! ## What an accepted command leaves (R143, R146) -/

theorem dispatch_ifAddressed_own {legal : List CardState} {s : State} (rule : State → State)
    (hc : s.cardState ∈ legal) :
    dispatch legal (ifAddressed s.rca rule) s = rule (beginFrame s) := by
  rw [dispatch_legal _ hc, ifAddressed, beginFrame_rca, if_pos rfl]

theorem finish_beginFrame (s : State) : finish false false (beginFrame s) = accepted s := rfl

theorem finish_respond_beginFrame (r : Response) (s : State) :
    finish false false (respond r (beginFrame s)) = answered r s := rfl

theorem finish_reported_respond_beginFrame (r : Response) (s : State) :
    finish false true (respond r (beginFrame s)) = answeredR1 r s := rfl

/-! ## The ways back to Idle (R170, R176, R200, R346) -/

theorem backToIdle_eq_aborted (s : State) : backToIdle s = aborted s := rfl

/-- R176: of the DAT3 level only the mode violation is left, and a flag raised before stays. -/
theorem raiseError_modeViolation_unless (high : Bool) (p : State) :
    (if high then p else raiseError .modeViolation p) =
      { p with errHostIsSpi := p.errHostIsSpi || !high } := by
  cases high with
  | true => rw [Bool.not_true, Bool.or_false]; rfl
  | false => rw [Bool.not_false, Bool.or_true]; rfl

/-- Settles O20: CMD0 needs no legality check, and its rule is the abort after the DAT3 test. -/
theorem goIdleStateResets : Obligations.GoIdleStateResets := by
  intro s stuff
  rw [exec, execGoIdleState, raiseError_modeViolation_unless, backToIdle_eq_aborted]
  rfl

theorem deselectCard_beginFrame (s : State) :
    deselectCard (beginFrame s) = { aborted (accepted s) with infoCardDesel := true } := rfl

/-- Settles O27: another card's RCA is a deselect before any legality check. -/
theorem deselectAbortsToIdle : Obligations.DeselectAbortsToIdle := by
  intro s rca stuff other
  rw [exec, execSelectDeselectCard, if_neg other, deselectCard_beginFrame]

/-! ## Commands in Idle (R178, R180, R183) -/

/-- Settles O21: whether the card answers hangs on VHS alone. -/
theorem sendIfCondEchoes : Obligations.SendIfCondEchoes := by
  intro s stuff vhs pattern idle
  rw [exec, execSendIfCond, dispatch_legal _ (List.mem_singleton.2 idle)]
  by_cases supported : vhs = 0b0001#4
  · rw [if_pos supported, if_pos supported, finish_respond_beginFrame, supported]
  · rw [if_neg supported, if_neg supported, finish_beginFrame]

/-- Settles O22: CMD55's rule sets the flag that the frame itself cleared. -/
theorem appCmdSetsThePrefix : Obligations.AppCmdSetsThePrefix := by
  intro s stuff legal
  rw [exec, execAppCmd, dispatch_ifAddressed_own _ legal, cardStatus_beginFrame]
  rfl

/-- Settles O23: for window 0 the state kept is Idle. -/
theorem sendOpCondMakesReady : Obligations.SendOpCondMakesReady := by
  intro s a hcs b window idle
  rw [exec, execSdSendOpCond, dispatch_legal _ (List.mem_singleton.2 idle), beginFrame_cardState,
    idle]
  rfl

/-! ## CID, RCA, CSD and the status (R186 to R196) -/

theorem exec_allSendCid_ready {s : State} (ready : s.cardState = .ready) (stuff : BitVec 32) :
    exec (.allSendCid stuff) s = .next
      { answered (r2 Config.cidValue) s with cardState := .identification } := by
  rw [exec, execAllSendCid, dispatch_legal _ (List.mem_singleton.2 ready)]
  rfl

theorem exec_sendRelativeAddr_legal {s : State} (legal : s.cardState ∈ [.identification, .standby])
    (stuff : BitVec 32) :
    exec (.sendRelativeAddr stuff) s = .next
      { answered (r6 Config.rcaValue (r6Status (cardStatus s false false))) s with
        rca := Config.rcaValue, cardState := .standby } := by
  rw [exec, execSendRelativeAddr, dispatch_legal _ legal, cardStatus_beginFrame]
  rfl

theorem exec_sendCsd_own {s : State} (standby : s.cardState = .standby) (stuff : BitVec 16) :
    exec (.sendCsd s.rca stuff) s = .next (answered (r2 Config.csdValue) s) := by
  rw [exec, execSendCsd, dispatch_ifAddressed_own _ (List.mem_singleton.2 standby),
    finish_respond_beginFrame]

theorem exec_sendCid_own {s : State} (standby : s.cardState = .standby) (stuff : BitVec 16) :
    exec (.sendCid s.rca stuff) s = .next (answered (r2 Config.cidValue) s) := by
  rw [exec, execSendCid, dispatch_ifAddressed_own _ (List.mem_singleton.2 standby),
    finish_respond_beginFrame]

/-- Settles O24. -/
theorem identificationCommandsAnswer : Obligations.IdentificationCommandsAnswer :=
  fun _ => ⟨exec_allSendCid_ready, exec_sendRelativeAddr_legal,
    fun standby stuff => ⟨exec_sendCsd_own standby stuff, exec_sendCid_own standby stuff⟩⟩

/-- Settles O25: CMD13's rule is its R1 and the bookkeeping, in whatever phase a transfer is. -/
theorem sendStatusReports : Obligations.SendStatusReports := by
  intro s stuff legal
  rw [exec, execSendStatus, dispatch_ifAddressed_own _ legal, cardStatus_beginFrame,
    finish_reported_respond_beginFrame]

/-! ## Selection (R198) -/

theorem selectCard_beginFrame (s : State) :
    selectCard (beginFrame s) =
      { answeredR1 (r1b 7#6 (cardStatus s false false)) s with
        cardState := .transfer, infoCardDesel := false } := rfl

/-- Settles O26. -/
theorem selectMovesToTransfer : Obligations.SelectMovesToTransfer := by
  intro s stuff legal
  rw [exec, execSelectDeselectCard, if_pos rfl, dispatch_legal _ legal, selectCard_beginFrame]

end Sys2Proof.Machine

/-! PROOFS. Transfer-state configuration (42_transfer_config.md R210 to R232): the next state each
command answers in Transfer, and the one writer of each erase field (R222, R228, R230). -/

namespace Sys2Proof.Machine

open Sys2Proof.Statements

/-! ## The erase fields (R37 to R39) and what may change them -/

/-- The pre-erase count and the erase range. -/
structure EraseFields where
  count : BitVec 23
  first : Word32
  last : Word32

def eraseFields (s : State) : EraseFields := ⟨s.preeraseNum, s.eraseStart, s.eraseEnd⟩

/-- All that a command can make of the erase fields `r`. -/
inductive EraseWrite (r : EraseFields) : Instr → EraseFields → Prop
  | keep (i : Instr) : EraseWrite r i r
  | count (stuff : BitVec 9) (n : BitVec 23) :
      EraseWrite r (.setWrBlkEraseCount stuff n) { r with count := n }
  | first (a : Word32) : EraseWrite r (.eraseWrBlkStart a) { r with first := a }
  | last (a : Word32) : EraseWrite r (.eraseWrBlkEnd a) { r with last := a }

theorem EraseWrite.of_count_ne {r q : EraseFields} {i : Instr} (h : EraseWrite r i q)
    (changed : q.count ≠ r.count) : ∃ stuff n, i = .setWrBlkEraseCount stuff n := by
  cases h with
  | count stuff n => exact ⟨stuff, n, rfl⟩
  | keep | first | last => exact absurd rfl changed

theorem EraseWrite.of_first_ne {r q : EraseFields} {i : Instr} (h : EraseWrite r i q)
    (changed : q.first ≠ r.first) : ∃ a, i = .eraseWrBlkStart a := by
  cases h with
  | first a => exact ⟨a, rfl⟩
  | keep | count | last => exact absurd rfl changed

theorem EraseWrite.of_last_ne {r q : EraseFields} {i : Instr} (h : EraseWrite r i q)
    (changed : q.last ≠ r.last) : ∃ a, i = .eraseWrBlkEnd a := by
  cases h with
  | last a => exact ⟨a, rfl⟩
  | keep | count | first => exact absurd rfl changed

/-- From one state to the next the erase fields change at most as the command may change them. -/
def WritesErase (i : Instr) (s t : State) : Prop := EraseWrite (eraseFields s) i (eraseFields t)

/-- The function leaves the erase fields as it finds them. -/
def KeepsErase (rule : State → State) : Prop := ∀ p, eraseFields (rule p) = eraseFields p

theorem KeepsErase.comp {f g : State → State} (hf : KeepsErase f) (hg : KeepsErase g) :
    KeepsErase (fun p => f (g p)) := fun p => (hf (g p)).trans (hg p)

theorem KeepsErase.ite {c : State → Prop} [∀ p, Decidable (c p)] {f g : State → State}
    (hf : KeepsErase f) (hg : KeepsErase g) : KeepsErase (fun p => if c p then f p else g p) := by
  intro p
  by_cases h : c p
  · simp only [if_pos h, hf p]
  · simp only [if_neg h, hg p]

/-! ## The erase fields under the shared operations -/

theorem finish_keepsErase (keepCount reported : Bool) : KeepsErase (finish keepCount reported) :=
  fun _ => rfl

theorem ifAddressed_keepsErase {rca : Rca} {rule : State → State} (h : KeepsErase rule) :
    KeepsErase (ifAddressed rca rule) := .ite h fun _ => rfl

theorem startRead_keepsErase (index : BitVec 6) (count : Bool × Word32) (a : Word32) :
    KeepsErase (startRead index count a) := .ite (fun _ => rfl) fun _ => rfl

theorem startWrite_keepsErase (index : BitVec 6) (count : Bool × Word32) (a : Word32) :
    KeepsErase (startWrite index count a) := .ite (fun _ => rfl) fun _ => rfl

theorem stopWrite_keepsErase : KeepsErase stopWrite := .ite (fun _ => rfl) fun _ => rfl

/-- A dispatched command may do to the erase fields what its rule may, since a rejection keeps
them. -/
theorem dispatch_eraseWrite {i : Instr} {s : State} {legal : List CardState} {rule : State → State}
    (write : WritesErase i s (rule (beginFrame s))) :
    NextHas (WritesErase i s) (.next (dispatch legal rule s)) :=
  nextHas_next.2 (dispatch_has (P := WritesErase i s) (.keep i) fun _ => write)

theorem dispatch_noEraseWrite {i : Instr} {s : State} {legal : List CardState}
    {rule : State → State} (h : KeepsErase rule) :
    NextHas (WritesErase i s) (.next (dispatch legal rule s)) :=
  dispatch_eraseWrite (by rw [WritesErase, h]; exact .keep i)

/-! ## The erase fields under every command -/

/-- ACMD23, CMD32 and CMD33 write their own field, and no other command writes one. -/
theorem exec_eraseWrite (i : Instr) (s : State) : NextHas (WritesErase i s) (exec i s) := by
  cases i with
  | setWrBlkEraseCount stuff n => exact dispatch_eraseWrite (.count stuff n)
  | eraseWrBlkStart a =>
    refine dispatch_eraseWrite ?_
    cases outOfRange a with
    | true => exact .keep _
    | false => exact .first a
  | eraseWrBlkEnd a =>
    refine dispatch_eraseWrite ?_
    cases outOfRange a with
    | true => exact .keep _
    | false => exact .last a
  | goIdleState _ =>
    rw [exec, execGoIdleState, raiseError_modeViolation_unless]
    exact nextHas_next.2 (.keep _)
  | selectDeselectCard rca _ =>
    rw [exec, execSelectDeselectCard]
    by_cases own : rca = s.rca
    · rw [if_pos own]; exact dispatch_noEraseWrite fun _ => rfl
    · rw [if_neg own]; exact nextHas_next.2 (.keep _)
  | sendIfCond _ vhs pattern =>
    exact dispatch_noEraseWrite (.comp (finish_keepsErase _ _) (.ite (fun _ => rfl) fun _ => rfl))
  | stopTransmission _ =>
    exact dispatch_noEraseWrite (.comp (finish_keepsErase _ _)
      (.ite (fun _ => rfl) (stopWrite_keepsErase.comp fun _ => rfl)))
  | sendCsd _ _ | sendCid _ _ | sendStatus _ _ | appCmd _ _ =>
    exact dispatch_noEraseWrite (ifAddressed_keepsErase fun _ => rfl)
  | readSingleBlock addr | readMultipleBlock addr =>
    exact dispatch_noEraseWrite fun p => startRead_keepsErase _ _ addr p
  | writeBlock addr | writeMultipleBlock addr =>
    exact dispatch_noEraseWrite fun p => startWrite_keepsErase _ _ addr p
  | allSendCid _ | sendRelativeAddr _ | switchFunc _ _ _ | setBlocklen _ | setBlockCount _
  | erase _ | setBusWidth _ _ | sdSendOpCond _ _ _ _ | sendScr _ =>
    exact dispatch_noEraseWrite fun _ => rfl

/-! ## The erase fields under every event -/

theorem hostDataIn_keepsErase (bytes : List Byte) (crcs : List (BitVec 16)) :
    KeepsErase (hostDataIn bytes crcs) :=
  .ite (.ite (fun _ => rfl) fun _ => rfl) fun _ => rfl

theorem readAdvance_keepsErase : KeepsErase readAdvance := .ite (fun _ => rfl) fun _ => rfl

theorem hostDataOut_keepsErase : KeepsErase hostDataOut := by
  intro s
  obtain ⟨-, -, -, e⟩ | ⟨-, -, e⟩ | ⟨-, e⟩ | ⟨-, -, e⟩ := hostDataOut_cases s <;> rw [e]
  · rfl
  · exact readAdvance_keepsErase (sendBuffer s)
  · rfl

theorem consumerGo_keepsErase : KeepsErase consumerGo := .ite (fun _ => rfl) fun _ => rfl

theorem writeAdvanceCheck_keepsErase : KeepsErase writeAdvanceCheck :=
  .ite (fun _ => rfl) fun _ => rfl

theorem consumerDone_keepsErase : KeepsErase consumerDone :=
  .ite (.ite (fun _ => rfl) (writeAdvanceCheck_keepsErase.comp fun _ => rfl)) fun _ => rfl

theorem consumerBufRead_keepsErase (a : BitVec 8) : KeepsErase (consumerBufRead a) := by
  intro s
  obtain ⟨_, -, e⟩ | ⟨-, e⟩ := consumerBufRead_cases a s <;> rw [e] <;> rfl

theorem consumerBufWrite_keepsErase (a : BitVec 8) (v : Word32) :
    KeepsErase (consumerBufWrite a v) := by
  intro s
  rw [consumerBufWrite_eq_update]
  rfl

/-- No frame but a decoded command touches the erase fields. -/
theorem hostCommand_eraseWrite (f : Frame) (d : Bool) (s : State) :
    NextHas (fun t => eraseFields t = eraseFields s ∨ ∃ i, decode s.appCmd f = .command i ∧
      WritesErase i s t) (hostCommand f d s) := by
  obtain ⟨-, e⟩ | ⟨-, e⟩ | ⟨-, e⟩ | ⟨i, h, e⟩ := hostCommand_cases f d s <;> rw [e]
  · exact nextHas_next.2 (.inl rfl)
  · exact nextHas_next.2 (.inl rfl)
  · exact nextHas_next.2 (.inl rfl)
  · exact fun t ht => .inr ⟨i, h, exec_eraseWrite i { s with dat3 := d } t ht⟩

/-- Of all events but `Reset` only a decoded command can touch the erase fields. -/
theorem react_eraseWrite {e : Event} (notReset : e ≠ .reset) (s : State) :
    NextHas (fun t => eraseFields t = eraseFields s ∨ ∃ f d i, e = .hostCommand f d ∧
      decode s.appCmd f = .command i ∧ WritesErase i s t) (react e s) := by
  cases e with
  | hostCommand f d =>
    intro t ht
    exact (hostCommand_eraseWrite f d s t ht).imp_right fun ⟨i, w⟩ => ⟨f, d, i, rfl, w⟩
  | hostDataIn bytes crcs => exact nextHas_next.2 (.inl (hostDataIn_keepsErase bytes crcs s))
  | hostDataOut => exact nextHas_next.2 (.inl (hostDataOut_keepsErase s))
  | consumerGo => exact nextHas_next.2 (.inl (consumerGo_keepsErase s))
  | consumerDone => exact nextHas_next.2 (.inl (consumerDone_keepsErase s))
  | consumerBufRead a => exact nextHas_next.2 (.inl (consumerBufRead_keepsErase a s))
  | consumerBufWrite a v => exact nextHas_next.2 (.inl (consumerBufWrite_keepsErase a v s))
  | consumerStatusRead o => exact nextHas_next.2 (.inl rfl)
  | reset => exact absurd rfl notReset

/-- Settles O60: a changed field names the command that wrote it. -/
theorem eraseFieldsHaveTheirOwnWriters : Obligations.EraseFieldsHaveTheirOwnWriters := by
  intro s t e ht notReset
  obtain same | ⟨f, d, i, rfl, decoded, write⟩ := react_eraseWrite notReset s t ht
  · exact ⟨absurd (congrArg EraseFields.count same), absurd (congrArg EraseFields.first same),
      absurd (congrArg EraseFields.last same)⟩
  · refine ⟨fun changed => ?_, fun changed => ?_, fun changed => ?_⟩
    · obtain ⟨stuff, n, rfl⟩ := write.of_count_ne changed
      exact ⟨f, d, stuff, n, rfl, decoded⟩
    · obtain ⟨a, rfl⟩ := write.of_first_ne changed
      exact ⟨f, d, a, rfl, decoded⟩
    · obtain ⟨a, rfl⟩ := write.of_last_ne changed
      exact ⟨f, d, a, rfl, decoded⟩

/-! ## Register blocks (R210, R224) -/

/-- The offer moves no field that the answer and the bookkeeping set. -/
theorem finish_offerRegister_respond (payload : List Byte) (r : Response) (s : State) :
    finish false true (offerRegister payload (respond r (beginFrame s))) =
      offerRegister payload (answeredR1 r s) := rfl

/-- R210: a switch can set `hs_active` and never clears it. -/
theorem exec_switchFunc_transfer {s : State} (transfer : s.cardState = .transfer) (mode : BitVec 1)
    (groups : BitVec 27) (fg1 : BitVec 4) :
    exec (.switchFunc mode groups fg1) s = .next
      (offerRegister (Config.switchStatus (mode ++ groups ++ fg1) Config.enableHs).toList
        { answeredR1 (r1 6#6 (cardStatus s false false)) s with
          hsActive := s.hsActive || (mode = 1#1 && fg1 = 1#4 && Config.enableHs) }) := by
  rw [exec, execSwitchFunc, dispatch_legal _ (List.mem_singleton.2 transfer), cardStatus_beginFrame,
    Bool.if_true_left, Bool.or_comm, Bool.decide_and, Bool.decide_and, Bool.decide_eq_true,
    ← Bool.and_assoc]
  rfl

theorem exec_sendScr_transfer {s : State} (transfer : s.cardState = .transfer)
    (stuff : BitVec 32) :
    exec (.sendScr stuff) s = .next
      (offerRegister (scrBytes Config.scrValue)
        (answeredR1 (r1 51#6 (cardStatus s false true)) s)) := by
  rw [exec, execSendScr, dispatch_legal _ (List.mem_singleton.2 transfer), cardStatus_beginFrame,
    finish_offerRegister_respond]

/-- Settles O28: `scrBytes` lists the eight bytes from the top. -/
theorem registerBlocksAreOffered : Obligations.RegisterBlocksAreOffered :=
  fun _ transfer => ⟨exec_switchFunc_transfer transfer, exec_sendScr_transfer transfer⟩

/-! ## Commands that only answer (R212, R232) -/

/-- Settles O29: CMD38 passes Programming and ends in the Transfer it began in. -/
theorem blocklenAndEraseOnlyAnswer : Obligations.BlocklenAndEraseOnlyAnswer := by
  intro s arg transfer
  have legal : s.cardState ∈ [.transfer] := List.mem_singleton.2 transfer
  constructor
  · rw [exec, execSetBlocklen, dispatch_legal _ legal, cardStatus_beginFrame,
      finish_reported_respond_beginFrame]
  · have back : { answeredR1 (r1b 38#6 (cardStatus s false false)) s with
        cardState := .transfer } = answeredR1 (r1b 38#6 (cardStatus s false false)) s := by
      rw [← transfer]; rfl
    rw [exec, execErase, dispatch_legal _ legal, cardStatus_beginFrame, ← back]
    rfl

/-! ## Counts (R214, R222) -/

/-- Settles O30: `Finish` keeps the pending count for CMD23 alone. -/
theorem countsAreStored : Obligations.CountsAreStored := by
  intro s transfer
  have legal : s.cardState ∈ [.transfer] := List.mem_singleton.2 transfer
  refine ⟨fun count => ?_, fun stuff count => ?_⟩
  · rw [exec, execSetBlockCount, dispatch_legal _ legal, cardStatus_beginFrame]
    rfl
  · rw [exec, execSetWrBlkEraseCount, dispatch_legal _ legal, cardStatus_beginFrame]
    rfl

/-! ## The bus width (R218) -/

theorem exec_setBusWidth_transfer {s : State} (transfer : s.cardState = .transfer)
    (stuff : BitVec 30) (width : BitVec 2) :
    exec (.setBusWidth stuff width) s = .next
      { answeredR1 (r1 6#6 (cardStatus s false true)) s with
        busWidth := busWidthOfCode width s.busWidth } := by
  rw [exec, execSetBusWidth, dispatch_legal _ (List.mem_singleton.2 transfer),
    cardStatus_beginFrame]
  rfl

/-- Settles O31: the four codes of `busWidthOfCode`. -/
theorem setBusWidthSelectsTheLines : Obligations.SetBusWidthSelectsTheLines := by
  intro s stuff transfer
  have sets := exec_setBusWidth_transfer transfer stuff
  exact ⟨sets 0b00#2, sets 0b10#2, sets 0b01#2, sets 0b11#2⟩

/-! ## The erase range (R228, R230) -/

/-- Settles O32: one range test decides between the store and the report. -/
theorem eraseRangeIsPublished : Obligations.EraseRangeIsPublished := by
  intro s a transfer
  have legal : s.cardState ∈ [.transfer] := List.mem_singleton.2 transfer
  rw [exec, exec, execEraseWrBlkStart, execEraseWrBlkEnd, dispatch_legal _ legal,
    dispatch_legal _ legal, cardStatus_beginFrame, cardStatus_beginFrame]
  by_cases inRange : a.toNat < Config.capacityBlocks
  · rw [if_pos inRange, if_pos inRange, (outOfRange_eq_false_iff a).2 inRange]
    exact ⟨rfl, rfl⟩
  · rw [if_neg inRange, if_neg inRange, (outOfRange_iff a).2 (Nat.le_of_not_lt inRange)]
    exact ⟨rfl, rfl⟩

end Sys2Proof.Machine

/-! PROOFS. The block I/O sequencer (43_block_io.md R250 to R289): what the transfer commands, the
strobes and the data events answer, and the bytes of a released block. -/

namespace Sys2Proof.Machine

open Sys2Proof.Statements

/-! ## The transfer commands (R250 to R254) -/

/-- R250: a pending count of 0 starts an open-ended transfer. -/
theorem multiBlockCount_eq (pending : Word32) :
    multiBlockCount pending = (decide (pending ≠ 0#32), pending) := by
  by_cases none : pending = 0#32 <;> simp [multiBlockCount, none]

/-- R252: one range test decides between the request and the report. -/
theorem finish_startRead_beginFrame (index : BitVec 6) (count : Bool × Word32) (a : Word32)
    (s : State) :
    finish false true (startRead index count a (beginFrame s)) =
      if a.toNat < Config.capacityBlocks then
        { answeredR1 (r1 index (cardStatus s false false)) s with
          xferBounded := count.1, blockReadNum := count.2, blockReadAddr := a,
          blockReadStop := false, blockReadAct := true, rdPhase := .waitGo,
          cardState := .sendData }
      else { answeredR1 (r1 index (cardStatus s true false)) s with errOpOutRange := true } := by
  obtain ⟨beyond, e⟩ | ⟨inRange, e⟩ := startRead_cases index count a (beginFrame s) <;>
    rw [e, cardStatus_beginFrame]
  · rw [if_neg (Nat.not_lt.2 beyond)]; rfl
  · rw [if_pos inRange]; rfl

/-- R254: one range test decides between the wait for data and the report. -/
theorem finish_startWrite_beginFrame (index : BitVec 6) (count : Bool × Word32) (a : Word32)
    (s : State) :
    finish false true (startWrite index count a (beginFrame s)) =
      if a.toNat < Config.capacityBlocks then
        { answeredR1 (r1 index (cardStatus s false false)) s with
          xferBounded := count.1, blockWriteNum := count.2, blockWriteAddr := a, wrFirst := true,
          wrStopping := false, blockWriteAct := false, wrPhase := .waitData,
          cardState := .receiveData }
      else { answeredR1 (r1 index (cardStatus s true false)) s with errOpOutRange := true } := by
  obtain ⟨beyond, e⟩ | ⟨inRange, e⟩ := startWrite_cases index count a (beginFrame s) <;>
    rw [e, cardStatus_beginFrame]
  · rw [if_neg (Nat.not_lt.2 beyond)]; rfl
  · rw [if_pos inRange]; rfl

/-- Settles O33: the two commands differ in index and count alone. -/
theorem readCommandsPublishARequest : Obligations.ReadCommandsPublishARequest := by
  intro s a transfer
  have legal : s.cardState ∈ [.transfer] := List.mem_singleton.2 transfer
  constructor
  · rw [exec, execReadSingleBlock, dispatch_legal _ legal, finish_startRead_beginFrame]
    rfl
  · rw [exec, execReadMultipleBlock, dispatch_legal _ legal, finish_startRead_beginFrame,
      multiBlockCount_eq]
    rfl

/-- Settles O34: the two commands differ in index and count alone. -/
theorem writeCommandsWaitForData : Obligations.WriteCommandsWaitForData := by
  intro s a transfer
  have legal : s.cardState ∈ [.transfer] := List.mem_singleton.2 transfer
  constructor
  · rw [exec, execWriteBlock, dispatch_legal _ legal, finish_startWrite_beginFrame]
    rfl
  · rw [exec, execWriteMultipleBlock, dispatch_legal _ legal, finish_startWrite_beginFrame,
      multiBlockCount_eq]
    rfl

/-! ## CMD12 (R260) -/

theorem finish_stopRead_respond (r : Response) (s : State) :
    finish false true (stopRead (respond r (beginFrame s))) = stopRead (answeredR1 r s) := rfl

theorem finish_stopWrite_respond (r : Response) (s : State) :
    finish false true (stopWrite (respond r (beginFrame s))) = stopWrite (answeredR1 r s) :=
  apply_ite (finish false true) _ _ _

theorem exec_stopTransmission_sendData {s : State} (sending : s.cardState = .sendData)
    (stuff : BitVec 32) :
    exec (.stopTransmission stuff) s = .next
      (stopRead (answeredR1 (r1b 12#6 (cardStatus s false false)) s)) := by
  have reads : (beginFrame s).cardState = .sendData := sending
  rw [exec, execStopTransmission, dispatch_legal _ (by simp [sending])]
  simp only [if_pos reads, cardStatus_beginFrame, finish_stopRead_respond]

theorem exec_stopTransmission_receiveData {s : State} (receiving : s.cardState = .receiveData)
    (stuff : BitVec 32) :
    exec (.stopTransmission stuff) s = .next
      (stopWrite (answeredR1 (r1b 12#6 (cardStatus s false false)) s)) := by
  have writes : (beginFrame s).cardState ≠ .sendData := by simp [receiving]
  rw [exec, execStopTransmission, dispatch_legal _ (by simp [receiving])]
  simp only [if_neg writes, cardStatus_beginFrame, finish_stopWrite_respond]

/-- R260: only a register block leaves `block_read_stop` as it was. -/
theorem stopRead_eq (s : State) :
    stopRead s =
      { s with
        blockReadStop := s.blockReadStop || s.rdPhase ≠ .sendingReg
        blockReadAct := false, rdPhase := .rIdle, rdRegPayload := [], cardState := .transfer } := by
  by_cases register : s.rdPhase = .sendingReg <;> simp [stopRead, register]

theorem stopWrite_of_landed {s : State} (h : s.wrPhase = .waitDone) :
    stopWrite s = { s with wrStopping := true, cardState := .programming } := if_pos h

theorem stopWrite_of_notLanded {s : State} (h : s.wrPhase ≠ .waitDone) :
    stopWrite s = { s with wrPhase := .wIdle, wrFirst := false, cardState := .transfer } :=
  if_neg h

/-- Settles O35: a landed block decides which end the stop of a write has. -/
theorem stopTransmissionEndsTheTransfer : Obligations.StopTransmissionEndsTheTransfer := by
  intro s stuff
  refine ⟨fun sending => ?_, fun receiving landed => ?_, fun receiving notLanded => ?_⟩
  · rw [exec_stopTransmission_sendData sending, stopRead_eq]
    rfl
  · rw [exec_stopTransmission_receiveData receiving,
      stopWrite_of_landed (s := answeredR1 _ s) landed]
  · rw [exec_stopTransmission_receiveData receiving,
      stopWrite_of_notLanded (s := answeredR1 _ s) notLanded]

/-! ## The consumer's strobes (R264, R280, R281) -/

theorem consumerGo_of_waiting {s : State} (h : s.rdPhase = .waitGo) :
    consumerGo s =
      { s with
        blockReadAct := false
        blockReadNum := if s.xferBounded then s.blockReadNum - 1#32 else s.blockReadNum
        rdPhase := .sending } := if_pos h

theorem consumerGo_of_notWaiting {s : State} (h : s.rdPhase ≠ .waitGo) : consumerGo s = s :=
  if_neg h

/-- Settles O36. -/
theorem goReleasesOneBlock : Obligations.GoReleasesOneBlock := by
  intro s
  rw [step_withEvent, react]
  by_cases waiting : s.rdPhase = .waitGo
  · rw [if_pos waiting, consumerGo_of_waiting waiting]
  · rw [if_neg waiting, consumerGo_of_notWaiting waiting]

theorem consumerDone_of_notLanded {s : State} (h : s.wrPhase ≠ .waitDone) : consumerDone s = s :=
  if_neg h

/-- R280: the serviced count and a pending stop decide how a write goes on. -/
theorem consumerDone_of_landed {s : State} (h : s.wrPhase = .waitDone) :
    consumerDone s =
      if (s.xferBounded = true ∧ (serviceWrite s).blockWriteNum = 0#32) ∨ s.wrStopping = true then
        endWrite (serviceWrite s)
      else writeAdvanceCheck (serviceWrite s) := if_pos h

theorem writeAdvanceCheck_eq (s : State) :
    writeAdvanceCheck s =
      if s.blockWriteAddr.toNat + 1 < Config.capacityBlocks then { s with wrPhase := .waitData }
      else { s with errOpOutRange := true, stOutOfRange := true, wrPhase := .wHalted } := by
  obtain ⟨beyond, e⟩ | ⟨inRange, e⟩ := writeAdvanceCheck_cases s
  · rw [e, if_neg (Nat.not_lt.2 beyond)]
  · rw [e, if_pos inRange]

/-- R280: the last block of a bounded write ends it. -/
theorem consumerDone_of_last {s : State} (landed : s.wrPhase = .waitDone)
    (bounded : s.xferBounded = true) (none : (serviceWrite s).blockWriteNum = 0#32) :
    consumerDone s = endWrite (serviceWrite s) :=
  (consumerDone_of_landed landed).trans (if_pos (.inl ⟨bounded, none⟩))

/-- R281: a write with blocks still counted waits for the next one. -/
theorem consumerDone_of_more {s : State} (landed : s.wrPhase = .waitDone)
    (more : (serviceWrite s).blockWriteNum ≠ 0#32) (goesOn : s.wrStopping = false)
    (inside : s.blockWriteAddr.toNat + 1 < Config.capacityBlocks) :
    consumerDone s = { serviceWrite s with wrPhase := .waitData } := by
  have notEnded : ¬((s.xferBounded = true ∧ (serviceWrite s).blockWriteNum = 0#32) ∨
      s.wrStopping = true) := by
    simp [more, goesOn]
  rw [consumerDone_of_landed landed, if_neg notEnded, writeAdvanceCheck_eq]
  exact if_pos inside

/-- Settles O41: a done outside WaitDone, the last one of a transfer, and one with the advance
check of R281. -/
theorem doneServicesOneBlock : Obligations.DoneServicesOneBlock := by
  intro s
  rw [step_withEvent, react]
  by_cases landed : s.wrPhase = .waitDone
  · rw [if_pos landed, consumerDone_of_landed landed, writeAdvanceCheck_eq]
    rfl
  · rw [if_neg landed, consumerDone_of_notLanded landed]

/-! ## The host's blocks (R276) -/

/-- Settles O40: the three outcomes of a host block, with the bytes each leaves in the buffers. -/
theorem hostBlockIsJudged : Obligations.HostBlockIsJudged := by
  intro s bytes crcs
  rw [step_withEvent, react]
  refine ⟨fun notWaiting => ?_, fun waiting bad => ?_, fun waiting whole crc => ?_⟩
  · rw [hostDataIn_of_notWaiting notWaiting]
  · rw [← goodBlock_iff, Bool.not_eq_true] at bad
    rw [hostDataIn_of_bad waiting bad]
    refine ⟨dropBlock s.mem .wb, rfl, fun x outside => ?_⟩
    rw [readByte_dropBlock, if_neg (by omega)]
  · rw [hostDataIn_of_good waiting ((goodBlock_iff _ _ _).2 ⟨whole, crc⟩)]
    refine ⟨writeBlock s.mem .wb bytes, rfl, fun i => readWord_writeBlock s.mem .wb whole,
      fun x outside => ?_⟩
    rw [readByte_writeBlock s.mem .wb bytes whole, if_neg (by omega)]

/-! ## The bytes of a released block (R74, R81) -/

theorem length_flatMap_wordBytes (ws : List Word32) :
    (ws.flatMap wordBytes).length = 4 * ws.length := by
  simp [Nat.mul_comm]

/-- The bytes of a word stand at four times its index. -/
theorem wordBytes_of_flatMap (ws : List Word32) (i : Nat) (w : Word32) (h : ws[i]? = some w) :
    ((ws.flatMap wordBytes).drop (4 * i)).take 4 = wordBytes w := by
  induction ws generalizing i with
  | nil => simp at h
  | cons v rest ih =>
    cases i with
    | zero =>
      obtain rfl : v = w := by simpa using h
      rw [List.flatMap_cons]
      exact List.take_left' (wordBytes_length v)
    | succ i =>
      have behind : 4 * (i + 1) = (wordBytes v).length + 4 * i := by rw [wordBytes_length]; omega
      rw [List.flatMap_cons, behind, List.drop_length_add_append]
      exact ih i (by simpa using h)

/-- Draws are made for unwritten words alone. -/
theorem fillDraws_getElem?_written (ws : List (Option Word32)) (n i : Nat) (w : Word32)
    (h : ws[i]? = some (some w)) : (fillDraws ws n).1[i]? = some w := by
  induction ws generalizing n i with
  | nil => simp at h
  | cons v rest ih =>
    cases i with
    | zero =>
      obtain rfl : v = some w := by simpa using h
      rfl
    | succ i =>
      cases v with
      | some v => exact ih n i h
      | none => exact ih (n + 1) i h

theorem bufBytes_length (s : State) (b : Buf) : (bufBytes s b).length = 512 := by
  rw [bufBytes, length_flatMap_wordBytes, fillDraws_length, bufWords, List.length_map,
    List.length_range]

theorem bufBytes_at_written {s : State} {b : Buf} {i : Nat} {w : Word32} (hi : i < 128)
    (written : readWord s.mem b i = some w) :
    ((bufBytes s b).drop (4 * i)).take 4 = wordBytes w := by
  refine wordBytes_of_flatMap _ i w (fillDraws_getElem?_written _ _ i w ?_)
  simp [bufWords, hi, written]

theorem bufWords_eq_map_some {m : Memory} {b : Buf} {ws : List Word32} (hlen : ws.length = 128)
    (written : ∀ i, (h : i < ws.length) → readWord m b i = some ws[i]) :
    bufWords m b = ws.map some := by
  refine List.ext_getElem (by simp [bufWords, hlen]) fun i _ hi => ?_
  rw [List.length_map] at hi
  simp [bufWords, written i hi]

theorem bufBytes_of_bufWords {s : State} {b : Buf} {ws : List Word32}
    (h : bufWords s.mem b = ws.map some) : bufBytes s b = ws.flatMap wordBytes := by
  rw [bufBytes, h, fillDraws_all_written]

theorem drawsAfter_of_bufWords {s : State} {b : Buf} {ws : List Word32}
    (h : bufWords s.mem b = ws.map some) : drawsAfter s b = s.draws := by
  rw [drawsAfter, h, fillDraws_all_written]

/-! ## The host's reads (R266 to R269) -/

theorem readAdvance_eq (s : State) :
    readAdvance s =
      if s.blockReadAddr.toNat + 1 < Config.capacityBlocks then
        { s with blockReadAddr := s.blockReadAddr + 1#32, blockReadAct := true,
                 rdPhase := .waitGo }
      else { s with errOpOutRange := true, stOutOfRange := true, rdPhase := .rHalted } := by
  obtain ⟨beyond, e⟩ | ⟨inRange, e⟩ := readAdvance_cases s
  · rw [e, if_neg (Nat.not_lt.2 beyond)]
  · rw [e, if_pos inRange]

/-- What a read does once its block is out (R266, R268): it ends, advances or halts. -/
def afterBlock (s : State) : State :=
  if s.xferBounded = true ∧ s.blockReadNum = 0#32 then
    { s with rdPhase := .rIdle, cardState := .transfer }
  else if s.blockReadAddr.toNat + 1 < Config.capacityBlocks then
    { s with blockReadAddr := s.blockReadAddr + 1#32, blockReadAct := true, rdPhase := .waitGo }
  else { s with errOpOutRange := true, stOutOfRange := true, rdPhase := .rHalted }

/-- Neither the trace nor the draws have a part in how a read goes on. -/
theorem afterBlock_withSent (s : State) (o : List Output) (n : Nat) :
    afterBlock { s with out := o, draws := n } = { afterBlock s with out := o, draws := n } := by
  by_cases last : s.xferBounded = true ∧ s.blockReadNum = 0#32
  · simp only [afterBlock, if_pos last]
  · by_cases inRange : s.blockReadAddr.toNat + 1 < Config.capacityBlocks
    · simp only [afterBlock, if_neg last, if_pos inRange]
    · simp only [afterBlock, if_neg last, if_neg inRange]

/-- The trace after a block and its `data_out_done` (R268, R269). -/
def outAfter (bytes : List Byte) (s : State) : List Output :=
  s.out ++ [.data bytes (dataCrc bytes s.busWidth), .dataOutDone]

theorem emit_dataOutDone_sendData (bytes : List Byte) (s : State) :
    emit .dataOutDone (sendData bytes s) = { s with out := outAfter bytes s } := by
  simp [emit, outAfter]

theorem sendBuffer_eq (s : State) :
    sendBuffer s = { s with out := outAfter (bufBytes s .rb) s, draws := drawsAfter s .rb } :=
  congrArg (fun t : State => { t with draws := drawsAfter s .rb })
    (emit_dataOutDone_sendData (bufBytes s .rb) s)

/-- R268: the block is sent, and then the read ends, advances or halts. -/
theorem hostDataOut_of_sending {s : State} (h : s.rdPhase = .sending) :
    hostDataOut s =
      { afterBlock s with
        out := outAfter (bufBytes s .rb) s, draws := drawsAfter s .rb } := by
  rw [← afterBlock_withSent, ← sendBuffer_eq, hostDataOut, h]
  exact congrArg (ite _ _) (readAdvance_eq (sendBuffer s))

theorem hostDataOut_of_sendingReg {s : State} (h : s.rdPhase = .sendingReg) :
    hostDataOut s = sendRegister s := by
  rw [hostDataOut, h]

theorem hostDataOut_of_noBlock {s : State} (noBlock : s.rdPhase ≠ .sending)
    (noRegister : s.rdPhase ≠ .sendingReg) : hostDataOut s = s := by
  cases h : s.rdPhase with
  | sending => exact absurd h noBlock
  | sendingReg => exact absurd h noRegister
  | rIdle | waitGo | rHalted => simp only [hostDataOut, h]

/-- What is left of a sent block when the trace and the draws are put back. -/
theorem restore_afterBlock (s : State) :
    { afterBlock s with out := s.out, draws := s.draws } = afterBlock s :=
  (afterBlock_withSent s s.out s.draws).symm

/-- Settles O38: whatever is drawn, the block has its 512 bytes and the written words theirs. -/
theorem releasedBlockHasAllItsBytes : Obligations.ReleasedBlockHasAllItsBytes := by
  intro s sending
  refine ⟨hostDataOut s, bufBytes s .rb, rfl, bufBytes_length s .rb, ?_,
    fun i hi w written => bufBytes_at_written hi written, ?_⟩
  · rw [hostDataOut_of_sending sending]
    rfl
  · rw [hostDataOut_of_sending sending]
    exact restore_afterBlock s

/-- Settles O37: where every word is written the block is the words and nothing is drawn. -/
theorem releasedBlockIsSentAsStaged : Obligations.ReleasedBlockIsSentAsStaged := by
  intro s ws sending hlen written
  have staged : bufWords s.mem .rb = ws.map some := bufWords_eq_map_some hlen written
  refine ⟨hostDataOut s, rfl, ?_, ?_⟩ <;>
    rw [hostDataOut_of_sending sending, bufBytes_of_bufWords staged,
      drawsAfter_of_bufWords staged]
  · rfl
  · exact restore_afterBlock s

/-- Settles O39. -/
theorem registerBlockIsSent : Obligations.RegisterBlockIsSent := by
  intro s offered
  rw [step_withEvent, react, hostDataOut_of_sendingReg offered, sendRegister,
    emit_dataOutDone_sendData]
  rfl

/-- Settles O42: each event's own phase is missing. -/
theorem idleSequencerIgnoresDataEvents : Obligations.IdleSequencerIgnoresDataEvents := by
  have noOffer : ∀ s : State, s.rdPhase ≠ .sending → s.rdPhase ≠ .sendingReg →
      step (withEvent .hostDataOut s) = .next s :=
    fun _ noBlock noRegister => congrArg _ (hostDataOut_of_noBlock noBlock noRegister)
  refine ⟨fun s noRead noWrite => ⟨?_, ?_, ?_, fun bytes crcs => ?_⟩, noOffer⟩
  · exact congrArg _ (consumerGo_of_notWaiting (s := s) (by simp [noRead]))
  · exact congrArg _ (consumerDone_of_notLanded (s := s) (by simp [noWrite]))
  · exact noOffer s (by simp [noRead]) (by simp [noRead])
  · exact congrArg _ (hostDataIn_of_notWaiting (s := s) (by simp [noWrite]))

end Sys2Proof.Machine

/-! PROOFS. The bounded transfers (43_block_io.md R290): one strobe of the consumer for each block,
by induction over the blocks still to come. -/

namespace Sys2Proof.Machine

open Sys2Proof.Statements

/-! ## Runs -/

/-- From `s` the core is in `k` states with `P` and comes, after `k` steps, to one with `Q`. -/
def RunsThrough (P Q : State → Prop) (k : Nat) (s : State) : Prop :=
  (∀ j < k, ∃ u, core.run j s = .next u ∧ P u) ∧ ∃ t, core.run k s = .next t ∧ Q t

theorem run_succ {M : Host.Core} {s t : M.State} (h : M.step s = .next t) (k : Nat) :
    M.run (k + 1) s = M.run k t := by
  rw [Host.Core.run, h]

theorem RunsThrough.done {P Q : State → Prop} {s : State} (h : Q s) : RunsThrough P Q 0 s :=
  ⟨fun j hj => absurd hj j.not_lt_zero, s, rfl, h⟩

theorem RunsThrough.step {P Q : State → Prop} {k : Nat} {s t : State} (here : P s)
    (next : step s = .next t) (rest : RunsThrough P Q k t) : RunsThrough P Q (k + 1) s := by
  obtain ⟨before, last, hlast, atLast⟩ := rest
  refine ⟨fun j hj => ?_, last, (run_succ (M := core) next k).trans hlast, atLast⟩
  cases j with
  | zero => exact ⟨s, rfl, here⟩
  | succ j =>
    rw [run_succ (M := core) next]
    exact before j (Nat.lt_of_succ_lt_succ hj)

/-! ## Counts and addresses that do not wrap (R53) -/

theorem toNat_pred {num : Word32} {n : Nat} (h : num.toNat = n + 1) :
    (num - 1#32).toNat = n := by
  bv_omega

theorem toNat_succ_inCard {a : Word32} (h : a.toNat + 1 < Config.capacityBlocks) :
    (a + 1#32).toNat = a.toNat + 1 :=
  toNat_succ_of_inRange a (by simpa [nextOutOfRange] using h)

/-! ## A bounded read (R264 to R268) -/

/-- A go strobe and the host's read for each of `n` blocks. -/
def readEvents (n : Nat) : List Event :=
  (List.replicate n [Event.consumerGo, Event.hostDataOut]).flatten

/-- A bounded read with `n` more blocks to release after the one it requests now, the last of them
at the address `last`. -/
structure ReadRequests (last n : Nat) (s : State) : Prop where
  card : s.cardState = .sendData
  phase : s.rdPhase = .waitGo
  bounded : s.xferBounded = true
  count : s.blockReadNum.toNat = n + 1
  address : s.blockReadAddr.toNat + n = last
  events : s.inputs = .consumerGo :: .hostDataOut :: readEvents n

/-- The requested block is released: the request has fallen and the block is counted. -/
structure ReadReleased (last n : Nat) (s : State) : Prop where
  card : s.cardState = .sendData
  phase : s.rdPhase = .sending
  level : s.blockReadAct = false
  bounded : s.xferBounded = true
  count : s.blockReadNum.toNat = n
  address : s.blockReadAddr.toNat + n = last
  events : s.inputs = .hostDataOut :: readEvents n

/-- The read ended with the block at the address `last`. -/
structure ReadEnded (last : Nat) (s : State) : Prop where
  card : s.cardState = .transfer
  phase : s.rdPhase = .rIdle
  count : s.blockReadNum = 0#32
  level : s.blockReadAct = false
  address : s.blockReadAddr.toNat = last

theorem ReadRequests.go {last n : Nat} {s : State} (h : ReadRequests last n s) :
    ∃ t, step s = .next t ∧ ReadReleased last n t := by
  have reaction := consumerGo_of_waiting
    (s := { s with inputs := .hostDataOut :: readEvents n }) h.phase
  refine ⟨_, (step_cons h.events).trans (congrArg Host.Outcome.next reaction), ?_⟩
  exact
    { card := h.card, phase := rfl, level := rfl, bounded := h.bounded, address := h.address
      events := rfl
      count := by simpa only [h.bounded, if_true] using toNat_pred h.count }

/-- With the count at 0 the block sent is the last. -/
theorem ReadReleased.sendLast {last : Nat} {s : State} (h : ReadReleased last 0 s) :
    ∃ t, step s = .next t ∧ ReadEnded last t := by
  have count : s.blockReadNum = 0#32 := BitVec.eq_of_toNat_eq h.count
  have ends : s.xferBounded = true ∧ s.blockReadNum = 0#32 := ⟨h.bounded, count⟩
  have reaction := hostDataOut_of_sending (s := { s with inputs := readEvents 0 }) h.phase
  refine ⟨_, (step_cons h.events).trans (congrArg Host.Outcome.next reaction), ?_⟩
  rw [afterBlock, if_pos ends]
  exact { card := rfl, phase := rfl, count, level := h.level, address := h.address }

/-- With blocks still counted the next one is requested. -/
theorem ReadReleased.sendNext {last n : Nat} {s : State} (h : ReadReleased last (n + 1) s)
    (inside : last < Config.capacityBlocks) :
    ∃ t, step s = .next t ∧ ReadRequests last n t := by
  have goesOn : ¬(s.xferBounded = true ∧ s.blockReadNum = 0#32) := fun ⟨_, zero⟩ => by
    have := h.count
    simp [zero] at this
  have address := h.address
  have nextInside : s.blockReadAddr.toNat + 1 < Config.capacityBlocks := by omega
  have reaction := hostDataOut_of_sending (s := { s with inputs := readEvents (n + 1) }) h.phase
  refine ⟨_, (step_cons h.events).trans (congrArg Host.Outcome.next reaction), ?_⟩
  rw [afterBlock, if_neg goesOn, if_pos nextInside]
  exact
    { card := h.card, phase := rfl, bounded := h.bounded, count := h.count, events := rfl
      address := by rw [toNat_succ_inCard nextInside]; omega }

/-- R290: two events for each block, all of them in SendData. -/
theorem ReadRequests.runsThrough {last : Nat} (inside : last < Config.capacityBlocks) (n : Nat) :
    ∀ s, ReadRequests last n s →
      RunsThrough (·.cardState = .sendData) (ReadEnded last) (2 * (n + 1)) s := by
  induction n with
  | zero =>
    intro s requests
    obtain ⟨t, go, released⟩ := requests.go
    obtain ⟨u, send, ended⟩ := released.sendLast
    exact .step requests.card go (.step released.card send (.done ended))
  | succ n ih =>
    intro s requests
    obtain ⟨t, go, released⟩ := requests.go
    obtain ⟨u, send, next⟩ := released.sendNext inside
    exact .step requests.card go (.step released.card send (ih u next))

/-- Settles O43: the induction of `ReadRequests.runsThrough`; a further go finds the read at
rest. -/
theorem boundedReadTakesExactlyItsGoStrobes :
    Obligations.BoundedReadTakesExactlyItsGoStrobes := by
  intro s n pos card phase bounded count inside events
  obtain ⟨n, rfl⟩ : ∃ k, n = k + 1 := ⟨n - 1, by omega⟩
  have requests : ReadRequests (s.blockReadAddr.toNat + n) n s :=
    { card, phase, bounded, count, address := rfl, events }
  obtain ⟨before, t, run, ended⟩ := ReadRequests.runsThrough (by omega) n s requests
  exact ⟨before, t, run, ended.card, ended.phase, ended.count, ended.level, ended.address,
    congrArg _ (consumerGo_of_notWaiting (s := t) (by simp [ended.phase]))⟩

/-! ## A bounded write (R276 to R281) -/

/-- Each block, with the CRC list of its width, and a done strobe after it. -/
def writeEvents (w : BusWidth) (blocks : List (List Byte)) : List Event :=
  blocks.flatMap fun b => [Event.hostDataIn b (dataCrc b w), Event.consumerDone]

/-- The address the next landing block gets (R276). -/
def landingAddr (s : State) : Word32 :=
  if s.wrFirst then s.blockWriteAddr else s.blockWriteAddr + 1#32

/-- A bounded write that awaits the block `b` and then the blocks `rest`, the last of them for the
address `last`. -/
structure WriteAwaits (last : Nat) (b : List Byte) (rest : List (List Byte)) (s : State) :
    Prop where
  card : s.cardState ≠ .transfer
  phase : s.wrPhase = .waitData
  goesOn : s.wrStopping = false
  bounded : s.xferBounded = true
  count : s.blockWriteNum.toNat = rest.length + 1
  address : (landingAddr s).toNat + rest.length = last
  events : s.inputs =
    .hostDataIn b (dataCrc b s.busWidth) :: .consumerDone :: writeEvents s.busWidth rest

/-- A block has landed and awaits its done, with the blocks `rest` still to come. -/
structure WriteLanded (last : Nat) (rest : List (List Byte)) (s : State) : Prop where
  card : s.cardState ≠ .transfer
  phase : s.wrPhase = .waitDone
  goesOn : s.wrStopping = false
  bounded : s.xferBounded = true
  count : s.blockWriteNum.toNat = rest.length + 1
  notFirst : s.wrFirst = false
  address : s.blockWriteAddr.toNat + rest.length = last
  events : s.inputs = .consumerDone :: writeEvents s.busWidth rest

/-- The write ended with the block at the address `last`. -/
structure WriteEnded (last : Nat) (s : State) : Prop where
  card : s.cardState = .transfer
  phase : s.wrPhase = .wIdle
  count : s.blockWriteNum = 0#32
  level : s.blockWriteAct = false
  address : s.blockWriteAddr.toNat = last

theorem WriteAwaits.land {last : Nat} {b : List Byte} {rest : List (List Byte)} {s : State}
    (h : WriteAwaits last b rest s) (whole : b.length = 512) :
    ∃ t, step s = .next t ∧ WriteLanded last rest t := by
  have good : goodBlock b (dataCrc b s.busWidth) s.busWidth = true :=
    (goodBlock_iff _ _ _).2 ⟨whole, rfl⟩
  have reaction := hostDataIn_of_good
    (s := { s with inputs := .consumerDone :: writeEvents s.busWidth rest }) h.phase good
  refine ⟨_, (step_cons h.events).trans (congrArg Host.Outcome.next reaction), ?_⟩
  exact
    { phase := rfl, goesOn := h.goesOn, bounded := h.bounded, count := h.count, notFirst := rfl
      address := h.address, events := rfl
      card := by
        rw [landBlock]
        dsimp only
        split_ifs
        · decide
        · exact h.card }

/-- The serviced count of a bounded write (R280). -/
theorem WriteLanded.serviced {last : Nat} {rest : List (List Byte)} {s : State}
    (h : WriteLanded last rest s) : (serviceWrite s).blockWriteNum.toNat = rest.length := by
  simpa only [serviceWrite, h.bounded, if_true] using toNat_pred h.count

/-- With the count at 0 the serviced block was the last. -/
theorem WriteLanded.doneLast {last : Nat} {s : State} (h : WriteLanded last [] s) :
    ∃ t, step s = .next t ∧ WriteEnded last t := by
  have count : (serviceWrite s).blockWriteNum = 0#32 := BitVec.eq_of_toNat_eq h.serviced
  have reaction := consumerDone_of_last (s := { s with inputs := writeEvents s.busWidth [] })
    h.phase h.bounded count
  refine ⟨_, (step_cons h.events).trans (congrArg Host.Outcome.next reaction), ?_⟩
  exact { card := rfl, phase := rfl, count, level := rfl, address := h.address }

/-- With blocks still counted the next one is awaited, for the next address. -/
theorem WriteLanded.doneNext {last : Nat} {b : List Byte} {rest : List (List Byte)} {s : State}
    (h : WriteLanded last (b :: rest) s) (inside : last < Config.capacityBlocks) :
    ∃ t, step s = .next t ∧ WriteAwaits last b rest t := by
  have serviced : (serviceWrite s).blockWriteNum.toNat = rest.length + 1 := h.serviced
  have more : (serviceWrite s).blockWriteNum ≠ 0#32 := fun zero => by
    simp [zero] at serviced
  have address : s.blockWriteAddr.toNat + (rest.length + 1) = last := h.address
  have nextInside : s.blockWriteAddr.toNat + 1 < Config.capacityBlocks := by omega
  have reaction := consumerDone_of_more
    (s := { s with inputs := writeEvents s.busWidth (b :: rest) }) h.phase more h.goesOn nextInside
  refine ⟨_, (step_cons h.events).trans (congrArg Host.Outcome.next reaction), ?_⟩
  exact
    { card := h.card, phase := rfl, goesOn := h.goesOn, bounded := h.bounded, count := serviced
      events := rfl
      address := by
        simp only [landingAddr, serviceWrite, h.notFirst]
        rw [if_neg Bool.false_ne_true, toNat_succ_inCard nextInside]
        omega }

/-- R290: two events for each block, none of them in Transfer. -/
theorem WriteAwaits.runsThrough {last : Nat} (inside : last < Config.capacityBlocks)
    (rest : List (List Byte)) :
    ∀ b s, (∀ c ∈ b :: rest, c.length = 512) → WriteAwaits last b rest s →
      RunsThrough (·.cardState ≠ .transfer) (WriteEnded last) (2 * (rest.length + 1)) s := by
  induction rest with
  | nil =>
    intro b s whole awaits
    obtain ⟨t, land, landed⟩ := awaits.land (whole b List.mem_cons_self)
    obtain ⟨u, done, ended⟩ := landed.doneLast
    exact .step awaits.card land (.step landed.card done (.done ended))
  | cons c rest ih =>
    intro b s whole awaits
    obtain ⟨t, land, landed⟩ := awaits.land (whole b List.mem_cons_self)
    obtain ⟨u, done, next⟩ := landed.doneNext inside
    have later := ih c u (fun d hd => whole d (List.mem_cons_of_mem b hd)) next
    exact .step awaits.card land (.step landed.card done later)

/-- Settles O44: the induction of `WriteAwaits.runsThrough`; a further done finds the write at
rest. -/
theorem boundedWriteTakesExactlyItsDoneStrobes :
    Obligations.BoundedWriteTakesExactlyItsDoneStrobes := by
  intro s blocks nonempty whole card phase first goesOn bounded count inside events
  obtain ⟨b, rest, rfl⟩ := List.exists_cons_of_ne_nil nonempty
  rw [List.length_cons] at inside
  have awaits : WriteAwaits (s.blockWriteAddr.toNat + rest.length) b rest s :=
    { card := by simp [card], phase, goesOn, bounded, count, events
      address := by rw [landingAddr, if_pos first] }
  obtain ⟨before, t, run, ended⟩ := WriteAwaits.runsThrough (by omega) rest b s whole awaits
  exact ⟨before, t, run, ended.card, ended.phase, ended.count, ended.level, ended.address,
    congrArg _ (consumerDone_of_notLanded (s := t) (by simp [ended.phase]))⟩

end Sys2Proof.Machine

/-! PROOFS. Exceptions (60_exceptions.md R300 to R322): nothing stops the core, and what each command
and each event can make of the error flags and of the pending requests. -/

namespace Sys2Proof.Machine

open Sys2Proof.Statements

/-! ## No event is refused (R300) -/

/-- No arm of `exec` ends in a fault or a refusal. -/
theorem exec_answers (i : Instr) (s : State) : ∃ t, exec i s = .next t := by
  cases i with
  | _ => exact ⟨_, rfl⟩

theorem hostCommand_answers (f : Frame) (d : Bool) (s : State) :
    ∃ t, hostCommand f d s = .next t := by
  obtain ⟨-, e⟩ | ⟨-, e⟩ | ⟨-, e⟩ | ⟨i, -, e⟩ := hostCommand_cases f d s <;> rw [e]
  · exact ⟨_, rfl⟩
  · exact ⟨_, rfl⟩
  · exact ⟨_, rfl⟩
  · exact exec_answers i _

theorem react_answers (e : Event) (s : State) : ∃ t, react e s = .next t := by
  cases e with
  | hostCommand f d => exact hostCommand_answers f d s
  | _ => exact ⟨_, rfl⟩

/-- Settles O49: a step waits or reacts, and every reaction answers a state. -/
theorem nothingStopsTheCore : Obligations.NothingStopsTheCore := by
  intro s
  cases hi : s.inputs with
  | nil => exact ⟨s, step_nil hi⟩
  | cons e rest => rw [step_cons hi]; exact react_answers e _

/-! ## The flags and the request levels, and what may change them -/

/-- What the core raises towards the consumer: the error flags (R40, R41) and the levels of the two
requests (R30, R34). -/
structure Signals where
  errCmdCrc : Bool
  errUnhandledCmd : Bool
  errOpOutRange : Bool
  errHostIsSpi : Bool
  infoCardDesel : Bool
  readAct : Bool
  writeAct : Bool

def signals (s : State) : Signals :=
  { errCmdCrc := s.errCmdCrc, errUnhandledCmd := s.errUnhandledCmd
    errOpOutRange := s.errOpOutRange, errHostIsSpi := s.errHostIsSpi
    infoCardDesel := s.infoCardDesel, readAct := s.blockReadAct, writeAct := s.blockWriteAct }

/-- All that a command can make of the signals of the state it is executed in. -/
inductive CommandSignals (s : State) : Instr → Signals → Prop
  | keep (i : Instr) : CommandSignals s i (signals s)
  | illegal (i : Instr) : CommandSignals s i { signals s with errUnhandledCmd := true }
  | outOfRange (i : Instr) : CommandSignals s i { signals s with errOpOutRange := true }
  | goIdle (stuff : BitVec 32) : CommandSignals s (.goIdleState stuff)
      { signals s with
        errHostIsSpi := s.errHostIsSpi || !s.dat3, readAct := false, writeAct := false }
  | select (stuff : BitVec 16) : CommandSignals s (.selectDeselectCard s.rca stuff)
      { signals s with infoCardDesel := false }
  | deselect {rca : Rca} (stuff : BitVec 16) (other : rca ≠ s.rca) :
      CommandSignals s (.selectDeselectCard rca stuff)
        { signals s with infoCardDesel := true, readAct := false, writeAct := false }
  | stopRead (stuff : BitVec 32) : CommandSignals s (.stopTransmission stuff)
      { signals s with readAct := false }
  | startRead (i : Instr) : CommandSignals s i { signals s with readAct := true }
  | startWrite (i : Instr) (transfer : s.cardState = .transfer) :
      CommandSignals s i { signals s with writeAct := false }

/-- All that an event can make of the signals. -/
inductive EventSignals (s : State) : Event → Signals → Prop
  | keep (e : Event) : EventSignals s e (signals s)
  | badCrc (f : Frame) (d : Bool) :
      EventSignals s (.hostCommand f d) { signals s with errCmdCrc := true }
  | unknown (f : Frame) (d : Bool) :
      EventSignals s (.hostCommand f d) { signals s with errUnhandledCmd := true }
  | command {f : Frame} {d : Bool} {i : Instr} {q : Signals}
      (decoded : decode s.appCmd f = .command i)
      (change : CommandSignals { s with dat3 := d } i q) : EventSignals s (.hostCommand f d) q
  | readNext : EventSignals s .hostDataOut { signals s with readAct := true }
  | readBeyond : EventSignals s .hostDataOut { signals s with errOpOutRange := true }
  | landed (bytes : List Byte) (crcs : List (BitVec 16)) :
      EventSignals s (.hostDataIn bytes crcs) { signals s with writeAct := true }
  | go : EventSignals s .consumerGo { signals s with readAct := false }
  | done : EventSignals s .consumerDone { signals s with writeAct := false }
  | doneBeyond : EventSignals s .consumerDone
      { signals s with writeAct := false, errOpOutRange := true }
  | reset : EventSignals s .reset ⟨false, false, false, false, false, false, false⟩

/-! ## The signals under every command -/

/-- A dispatched command does to the signals what its rule does where it is legal, and raises
`err_unhandled_cmd` elsewhere (R148). -/
theorem dispatch_signals {i : Instr} {s : State} {legal : List CardState} {rule : State → State}
    (accept : s.cardState ∈ legal → CommandSignals s i (signals (rule (beginFrame s)))) :
    NextHas (fun t => CommandSignals s i (signals t)) (.next (dispatch legal rule s)) :=
  nextHas_next.2 (dispatch_has (P := fun t => CommandSignals s i (signals t)) (.illegal i) accept)

theorem finish_startRead_signals (i : Instr) (index : BitVec 6) (count : Bool × Word32)
    (a : Word32) (s : State) :
    CommandSignals s i (signals (finish false true (startRead index count a (beginFrame s)))) := by
  obtain ⟨-, e⟩ | ⟨-, e⟩ := startRead_cases index count a (beginFrame s) <;> rw [e]
  · exact .outOfRange i
  · exact .startRead i

theorem finish_startWrite_signals (i : Instr) (index : BitVec 6) (count : Bool × Word32)
    (a : Word32) {s : State} (transfer : s.cardState = .transfer) :
    CommandSignals s i (signals (finish false true (startWrite index count a (beginFrame s)))) := by
  obtain ⟨-, e⟩ | ⟨-, e⟩ := startWrite_cases index count a (beginFrame s) <;> rw [e]
  · exact .outOfRange i
  · exact .startWrite i transfer

theorem signals_stopWrite (s : State) : signals (stopWrite s) = signals s := by
  by_cases landed : s.wrPhase = .waitDone
  · rw [stopWrite_of_landed landed]; rfl
  · rw [stopWrite_of_notLanded landed]; rfl

/-- CMD12 lowers the level of a read and leaves that of a write, whose block is still the
consumer's (R260). -/
theorem exec_stopTransmission_signals (stuff : BitVec 32) (s : State) :
    NextHas (fun t => CommandSignals s (.stopTransmission stuff) (signals t))
      (exec (.stopTransmission stuff) s) := by
  refine dispatch_signals fun _ => ?_
  by_cases sending : (beginFrame s).cardState = .sendData
  · simp only [if_pos sending]; exact .stopRead stuff
  · simp only [if_neg sending]
    exact (signals_stopWrite _).symm ▸ .keep _

theorem exec_signals (i : Instr) (s : State) :
    NextHas (fun t => CommandSignals s i (signals t)) (exec i s) := by
  cases i with
  | goIdleState stuff =>
    rw [exec, execGoIdleState, raiseError_modeViolation_unless]
    exact nextHas_next.2 (.goIdle stuff)
  | selectDeselectCard rca stuff =>
    rw [exec, execSelectDeselectCard]
    by_cases own : rca = s.rca
    · rw [if_pos own, own]; exact dispatch_signals fun _ => .select stuff
    · rw [if_neg own]; exact nextHas_next.2 (.deselect stuff own)
  | stopTransmission stuff => exact exec_stopTransmission_signals stuff s
  | sendIfCond _ vhs _ =>
    refine dispatch_signals fun _ => ?_
    by_cases supported : vhs = 0b0001#4
    · rw [if_pos supported]; exact .keep _
    · rw [if_neg supported]; exact .keep _
  | eraseWrBlkStart a | eraseWrBlkEnd a =>
    refine dispatch_signals fun _ => ?_
    cases outOfRange a with
    | true => exact .outOfRange _
    | false => exact .keep _
  | readSingleBlock a | readMultipleBlock a =>
    exact dispatch_signals fun _ => finish_startRead_signals _ _ _ a s
  | writeBlock a | writeMultipleBlock a =>
    exact dispatch_signals fun legal =>
      finish_startWrite_signals _ _ _ a (List.mem_singleton.1 legal)
  | sendCsd _ _ | sendCid _ _ | sendStatus _ _ | appCmd _ _ =>
    exact dispatch_signals fun _ =>
      ifAddressed_has (P := fun t => CommandSignals s _ (signals t)) (.keep _) (.keep _)
  | allSendCid _ | sendRelativeAddr _ | switchFunc _ _ _ | setBlocklen _ | setBlockCount _
  | erase _ | setBusWidth _ _ | setWrBlkEraseCount _ _ | sdSendOpCond _ _ _ _ | sendScr _ =>
    exact dispatch_signals fun _ => .keep _

/-! ## The signals under every event -/

theorem hostCommand_signals (f : Frame) (d : Bool) (s : State) :
    NextHas (fun t => EventSignals s (.hostCommand f d) (signals t)) (hostCommand f d s) := by
  obtain ⟨-, e⟩ | ⟨-, e⟩ | ⟨-, e⟩ | ⟨i, decoded, e⟩ := hostCommand_cases f d s <;> rw [e]
  · exact nextHas_next.2 (.keep _)
  · exact nextHas_next.2 (.badCrc f d)
  · exact nextHas_next.2 (.unknown f d)
  · exact fun t ht => .command decoded (exec_signals i { s with dat3 := d } t ht)

theorem hostDataIn_signals (bytes : List Byte) (crcs : List (BitVec 16)) (s : State) :
    EventSignals s (.hostDataIn bytes crcs) (signals (hostDataIn bytes crcs s)) := by
  obtain ⟨-, -, e⟩ | ⟨-, -, e⟩ | ⟨-, e⟩ := hostDataIn_cases bytes crcs s <;> rw [e]
  · exact .landed bytes crcs
  · exact .keep _
  · exact .keep _

theorem hostDataOut_signals (s : State) :
    EventSignals s .hostDataOut (signals (hostDataOut s)) := by
  obtain ⟨-, -, -, e⟩ | ⟨-, -, e⟩ | ⟨-, e⟩ | ⟨-, -, e⟩ := hostDataOut_cases s <;> rw [e]
  · exact .keep _
  · obtain ⟨-, e'⟩ | ⟨-, e'⟩ := readAdvance_cases (sendBuffer s) <;> rw [e']
    · exact .readBeyond
    · exact .readNext
  · exact .keep _
  · exact .keep _

theorem consumerGo_signals (s : State) : EventSignals s .consumerGo (signals (consumerGo s)) := by
  obtain ⟨-, e⟩ | ⟨-, e⟩ := consumerGo_cases s <;> rw [e]
  · exact .go
  · exact .keep _

theorem consumerDone_signals (s : State) :
    EventSignals s .consumerDone (signals (consumerDone s)) := by
  obtain ⟨-, -, e⟩ | ⟨-, -, e⟩ | ⟨-, e⟩ := consumerDone_cases s <;> rw [e]
  · exact .done
  · obtain ⟨-, e'⟩ | ⟨-, e'⟩ := writeAdvanceCheck_cases (serviceWrite s) <;> rw [e']
    · exact .doneBeyond
    · exact .done
  · exact .keep _

theorem signals_consumerBufRead (a : BitVec 8) (s : State) :
    signals (consumerBufRead a s) = signals s := by
  obtain ⟨_, -, e⟩ | ⟨-, e⟩ := consumerBufRead_cases a s <;> rw [e] <;> rfl

theorem signals_consumerBufWrite (a : BitVec 8) (v : Word32) (s : State) :
    signals (consumerBufWrite a v s) = signals s := by
  obtain ⟨_, e, -⟩ := consumerBufWrite_eq a v s
  rw [e]; rfl

theorem react_signals (e : Event) (s : State) :
    NextHas (fun t => EventSignals s e (signals t)) (react e s) := by
  cases e with
  | hostCommand f d => exact hostCommand_signals f d s
  | hostDataIn bytes crcs => exact nextHas_next.2 (hostDataIn_signals bytes crcs s)
  | hostDataOut => exact nextHas_next.2 (hostDataOut_signals s)
  | consumerGo => exact nextHas_next.2 (consumerGo_signals s)
  | consumerDone => exact nextHas_next.2 (consumerDone_signals s)
  | consumerBufRead a => exact nextHas_next.2 (signals_consumerBufRead a s ▸ .keep _)
  | consumerBufWrite a v => exact nextHas_next.2 (signals_consumerBufWrite a v s ▸ .keep _)
  | consumerStatusRead o => exact nextHas_next.2 (.keep _)
  | reset => exact nextHas_next.2 .reset

/-! ## The sticky flags (R303) -/

/-- Every error flag raised in `p` is raised in `q`. -/
def Signals.ErrorsStay (p q : Signals) : Prop :=
  (p.errCmdCrc = true → q.errCmdCrc = true) ∧
  (p.errUnhandledCmd = true → q.errUnhandledCmd = true) ∧
  (p.errOpOutRange = true → q.errOpOutRange = true) ∧
  (p.errHostIsSpi = true → q.errHostIsSpi = true)

theorem CommandSignals.errorsStay {s : State} {i : Instr} {q : Signals}
    (h : CommandSignals s i q) : (signals s).ErrorsStay q := by
  cases h with
  | keep | select | deselect | stopRead | startRead | startWrite => exact ⟨id, id, id, id⟩
  | illegal => exact ⟨id, fun _ => rfl, id, id⟩
  | outOfRange => exact ⟨id, id, fun _ => rfl, id⟩
  | goIdle => exact ⟨id, id, id, Bool.or_inl⟩

theorem EventSignals.errorsStay {s : State} {e : Event} {q : Signals} (h : EventSignals s e q)
    (notReset : e ≠ .reset) : (signals s).ErrorsStay q := by
  cases h with
  | keep | readNext | landed | go | done => exact ⟨id, id, id, id⟩
  | badCrc => exact ⟨fun _ => rfl, id, id, id⟩
  | unknown => exact ⟨id, fun _ => rfl, id, id⟩
  | command _ change => exact change.errorsStay
  | readBeyond | doneBeyond => exact ⟨id, id, fun _ => rfl, id⟩
  | reset => exact absurd rfl notReset

/-- Settles O52: no change but that of `Reset` clears an error flag. -/
theorem errorFlagsAreSticky : Obligations.ErrorFlagsAreSticky := by
  intro s t e ht
  refine ⟨(react_signals e s t ht).errorsStay, fun reset => ?_⟩
  subst reset
  obtain rfl : platformReset s = t := Host.Outcome.next.inj ht
  exact ⟨rfl, rfl, rfl, rfl⟩

/-! ## The deselect flag (R304) -/

theorem CommandSignals.infoCardDesel_eq {s : State} {i : Instr} {q : Signals}
    (h : CommandSignals s i q) (notCmd7 : ∀ rca stuff, i ≠ .selectDeselectCard rca stuff) :
    q.infoCardDesel = s.infoCardDesel := by
  cases h with
  | select stuff | deselect stuff => exact absurd rfl (notCmd7 _ stuff)
  | _ => rfl

theorem EventSignals.infoCardDesel_eq {s : State} {e : Event} {q : Signals}
    (h : EventSignals s e q) (notReset : e ≠ .reset)
    (notCmd7 : ∀ f d rca stuff, e = .hostCommand f d →
      decode s.appCmd f ≠ .command (.selectDeselectCard rca stuff)) :
    q.infoCardDesel = s.infoCardDesel := by
  cases h with
  | command decoded change =>
    refine change.infoCardDesel_eq fun rca stuff cmd7 => ?_
    exact notCmd7 _ _ rca stuff rfl (cmd7 ▸ decoded)
  | reset => exact absurd rfl notReset
  | _ => rfl

/-- The three ends of CMD7: the deselect, the select, and the own RCA where CMD7 is illegal (R148,
R198, R200). -/
theorem exec_cmd7_infoCardDesel {rca : Rca} {stuff : BitVec 16} {s t : State}
    (ht : exec (.selectDeselectCard rca stuff) s = .next t) :
    (rca ≠ s.rca → t.infoCardDesel = true) ∧
    (rca = s.rca → s.cardState ∈ [.standby, .transfer] → t.infoCardDesel = false) ∧
    (rca = s.rca → s.cardState ∉ [.standby, .transfer] → t.infoCardDesel = s.infoCardDesel) := by
  refine ⟨fun other => ?_, fun own legal => ?_, fun own illegal => ?_⟩
  · rw [deselectAbortsToIdle s rca stuff other] at ht
    exact Host.Outcome.next.inj ht ▸ rfl
  · rw [own, selectMovesToTransfer s stuff legal] at ht
    exact Host.Outcome.next.inj ht ▸ rfl
  · subst own
    rw [exec_illegal (by rwa [legalStates_select])] at ht
    exact Host.Outcome.next.inj ht ▸ rfl

/-- Settles O53: CMD7 by its three ends, every other event by what it can make of the signals. -/
theorem deselectFlagFollowsSelection : Obligations.DeselectFlagFollowsSelection := by
  intro s t e ht
  refine ⟨fun reset => ?_, fun f d rca stuff frame decoded => ?_,
    (react_signals e s t ht).infoCardDesel_eq⟩
  · subst reset
    exact Host.Outcome.next.inj ht ▸ rfl
  · subst frame
    exact exec_cmd7_infoCardDesel (s := { s with dat3 := d })
      ((hostCommand_of_command d decoded).symm.trans ht)

/-! ## The errors of one frame (R310) -/

theorem CommandSignals.errCmdCrc_eq {s : State} {i : Instr} {q : Signals}
    (h : CommandSignals s i q) : q.errCmdCrc = s.errCmdCrc := by
  cases h with
  | _ => rfl

theorem CommandSignals.of_errHostIsSpi_ne {s : State} {i : Instr} {q : Signals}
    (h : CommandSignals s i q) (changed : q.errHostIsSpi ≠ s.errHostIsSpi) :
    s.dat3 = false ∧ ∃ stuff, i = .goIdleState stuff := by
  cases h with
  | goIdle stuff =>
    refine ⟨Bool.eq_false_iff.2 fun high => changed ?_, stuff, rfl⟩
    simp [high]
  | _ => exact absurd rfl changed

theorem EventSignals.oneError {s : State} {f : Frame} {d : Bool} {q : Signals}
    (h : EventSignals s (.hostCommand f d) q) :
    q.errCmdCrc = s.errCmdCrc ∨ q.errUnhandledCmd = s.errUnhandledCmd := by
  cases h with
  | keep | unknown => exact .inl rfl
  | badCrc => exact .inr rfl
  | command _ change => exact .inl change.errCmdCrc_eq

theorem EventSignals.of_errHostIsSpi_ne {s : State} {f : Frame} {d : Bool} {q : Signals}
    (h : EventSignals s (.hostCommand f d) q) (changed : q.errHostIsSpi ≠ s.errHostIsSpi) :
    d = false ∧ ∃ stuff, decode s.appCmd f = .command (.goIdleState stuff) := by
  cases h with
  | command decoded change =>
    obtain ⟨low, stuff, rfl⟩ := change.of_errHostIsSpi_ne changed
    exact ⟨low, stuff, decoded⟩
  | keep | badCrc | unknown => exact absurd rfl changed

/-- Settles O54: a decoded command leaves `err_cmd_crc`, and a bad CRC leaves the rest. -/
theorem oneFrameRaisesOneError : Obligations.OneFrameRaisesOneError := by
  intro s t f d ht
  have change := react_signals (.hostCommand f d) s t ht
  exact ⟨change.oneError, change.of_errHostIsSpi_ne⟩

/-! ## The ends of a pending request (R322) -/

theorem CommandSignals.of_readEnds {s : State} {i : Instr} {q : Signals}
    (h : CommandSignals s i q) (pending : s.blockReadAct = true) (ended : q.readAct = false) :
    i.index = 0#6 ∨ i.index = 12#6 ∨
      ∃ rca stuff, i = .selectDeselectCard rca stuff ∧ rca ≠ s.rca := by
  cases h with
  | goIdle => exact .inl rfl
  | stopRead => exact .inr (.inl rfl)
  | deselect stuff other => exact .inr (.inr ⟨_, stuff, rfl, other⟩)
  | startRead => cases ended
  | keep | illegal | outOfRange | select | startWrite =>
    exact absurd (pending.symm.trans ended) nofun

/-- A write starts in Transfer, where no write is pending. -/
theorem CommandSignals.of_writeEnds {s : State} {i : Instr} {q : Signals}
    (h : CommandSignals s i q) (inv : CoreInvariant s) (pending : s.blockWriteAct = true)
    (ended : q.writeAct = false) :
    i.index = 0#6 ∨ ∃ rca stuff, i = .selectDeselectCard rca stuff ∧ rca ≠ s.rca := by
  cases h with
  | goIdle => exact .inl rfl
  | deselect stuff other => exact .inr ⟨_, stuff, rfl, other⟩
  | startWrite _ transfer =>
    have rest : AtRest s := inv.atRest (by rw [transfer]; rfl)
    exact absurd (pending.symm.trans rest.writeLow) nofun
  | keep | illegal | outOfRange | select | stopRead | startRead =>
    exact absurd (pending.symm.trans ended) nofun

theorem EventSignals.of_readEnds {s : State} {e : Event} {q : Signals} (h : EventSignals s e q)
    (pending : s.blockReadAct = true) (ended : q.readAct = false) :
    e = .consumerGo ∨ e = .reset ∨ ∃ f d i, e = .hostCommand f d ∧
      decode s.appCmd f = .command i ∧ (i.index = 0#6 ∨ i.index = 12#6 ∨
        ∃ rca stuff, i = .selectDeselectCard rca stuff ∧ rca ≠ s.rca) := by
  cases h with
  | go => exact .inl rfl
  | reset => exact .inr (.inl rfl)
  | command decoded change =>
    exact .inr (.inr ⟨_, _, _, rfl, decoded, change.of_readEnds pending ended⟩)
  | readNext => cases ended
  | keep | badCrc | unknown | readBeyond | landed | done | doneBeyond =>
    exact absurd (pending.symm.trans ended) nofun

theorem EventSignals.of_writeEnds {s : State} {e : Event} {q : Signals} (h : EventSignals s e q)
    (inv : CoreInvariant s) (pending : s.blockWriteAct = true) (ended : q.writeAct = false) :
    e = .consumerDone ∨ e = .reset ∨ ∃ f d i, e = .hostCommand f d ∧
      decode s.appCmd f = .command i ∧
      (i.index = 0#6 ∨ ∃ rca stuff, i = .selectDeselectCard rca stuff ∧ rca ≠ s.rca) := by
  cases h with
  | done | doneBeyond => exact .inl rfl
  | reset => exact .inr (.inl rfl)
  | command decoded change =>
    exact .inr (.inr ⟨_, _, _, rfl, decoded, change.of_writeEnds (inv.congr rfl) pending ended⟩)
  | landed => cases ended
  | keep | badCrc | unknown | readNext | readBeyond | go =>
    exact absurd (pending.symm.trans ended) nofun

/-- Settles O59: of all that can happen to a level only the strobe, an abort and, for a read, CMD12
lower it. -/
theorem pendingRequestsWaitForService : Obligations.PendingRequestsWaitForService := by
  intro s t e inv ht
  have change := react_signals e s t ht
  exact ⟨fun ⟨pending, ended⟩ => change.of_readEnds pending ended,
    fun ⟨pending, ended⟩ => change.of_writeEnds inv pending ended⟩

end Sys2Proof.Machine

/-! PROOFS. Reset and hazards (70_reset_and_hazards.md R340): what the platform's `Reset` writes and
what it keeps. -/

namespace Sys2Proof.Machine

open Sys2Proof.Statements

/-- `Reset` is obeyed in every state, and the event itself leaves no trace in what it keeps. -/
theorem step_withEvent_reset (s : State) :
    step (withEvent .reset s) = .next (platformReset s) :=
  step_withEvent .reset s

/-- Settles O3: the state answered is `platformReset`, and the four fields the statement leaves open
are those of the state before. -/
theorem platformResetWritesEveryField : Obligations.PlatformResetWritesEveryField := by
  intro s
  refine ⟨s.inputs, s.dat3, s.draws, s.portData, ?_⟩
  rw [step_withEvent_reset, platformReset]
  rfl

end Sys2Proof.Machine
